-- ==== Sys2Proof/Word.lean ====
section
/-! DEFINITION. The word types of MISA-O: the nibble is the unit of instruction encoding, the byte the
unit of memory, and every architectural register is a byte or a 16-bit pattern (00_scope.md R7, R10). -/

namespace Sys2Proof

/-- Four bits: an opcode or an immediate nibble (30_encoding.md R110). -/
abbrev Nibble := BitVec 4

/-- Eight bits: a memory location, CFG, IA, IAR (00_scope.md R7). -/
abbrev Byte := BitVec 8

/-- Sixteen bits: ACC, RS0, RS1, RA0, RA1, PC, a CSR, a byte address (00_scope.md R7). -/
abbrev Half := BitVec 16

end Sys2Proof
end

