-- ==== Sys2Proof/Config.lean ====
section
/-! DEFINITION. The implementation parameters of 00_scope.md R8, as a record of plain data, and the
constants that the spec leaves to the implementation without giving a value. -/

namespace Sys2Proof

/-- The link modes of CFG.W (10_state.md R27, R33). SPE exists only with the MAD profile. -/
inductive LinkMode where
  | ul
  | lk8
  | lk16
  | spe
deriving DecidableEq, Repr

/-- Number of nibbles of an ALU or LDi immediate (30_encoding.md R117, parameter IMM_NIBBLES). -/
inductive ImmLen where
  | one
  | two
deriving DecidableEq, Repr

/-- Which nibble of a code byte is fetched first (00_scope.md R8, parameter NIBBLE_ORDER). -/
inductive NibbleOrder where
  | lowFirst
  | highFirst
deriving DecidableEq, Repr

/-- Direction of the RACC and RRS rotation (44_structural.md R234, parameter RACC_DIR). -/
inductive RotDir where
  | right
  | left
deriving DecidableEq, Repr

/-- The borrow input of SUB when CI = 1 (40_arithmetic.md R152, parameter SUB_BIN). -/
inductive BorrowIn where
  | notCarry
  | carry
deriving DecidableEq, Repr

/-- What a reserved extended opcode does (30_encoding.md R122, 93_implementation_defined.md U1). -/
inductive RsvBehaviour where
  | noOp
  | refuse
deriving DecidableEq, Repr

/-- What TIMER counts (60_exceptions.md R370, parameter TIMER_MODE). -/
inductive TimerMode where
  | retired
  | cycle
deriving DecidableEq, Repr

/-- The two readings of the MAD accumulation (48_mad_profile.md R322, parameter MAD_FN): the exact sum
is kept through the shift, or it is wrapped to 16 bits first. -/
inductive MadFn where
  | exactSum
  | wrapFirst
deriving DecidableEq, Repr

/-- Which instructions write N and V (00_scope.md R8, parameter NV_RULE): the spec's default, or the
conservative alternative of 93_implementation_defined.md U7, "any value" for both after every ALU
instruction. DEDUCED which instructions those are, unsafe off the default (notes/assumptions/2.md). -/
inductive NvRule where
  | arithmetic
  | anyAfterAlu
deriving DecidableEq, Repr

/-- The reset values of the registers other than CFG whose zero is not fixed (00_scope.md R8, parameter
RESET_IMAGE; 10_state.md R60 and 93_implementation_defined.md U11 say which). DEDUCED, unsafe off the
default (notes/assumptions/22.md). -/
structure ResetImage where
  acc : Half
  rs0 : Half
  rs1 : Half
  ra0 : Half
  ra1 : Half
  c : Bool
  n : Bool
  v : Bool
  ia : Byte
  iar : Byte
  swIE : Bool
  extIE : Bool
  tIE : Bool
  timer : Half
  timerCmp : Half
  gpr1 : Half
  gpr2 : Half
  gpr3 : Half
deriving DecidableEq, Repr

/-- What becomes of the single-step request of an instruction whose timer tick resets the core: it follows
the reset, in the line order of 60_exceptions.md R348, or it is dropped with the rest of INTCTRL
(70_reset_and_hazards.md R390, R392). The two rules disagree and the spec does not rank them, so both are
here, R348 by default. DESIGN CHOICE, safe (notes/assumptions/10.md). -/
inductive StepAtReset where
  | follows
  | dropped
deriving DecidableEq, Repr

/-- The configuration record of 00_scope.md R8. It is fixed for a machine: no step changes it. END_ADDR
alone is not here: it is a convention of a test harness, outside the machine (decision D44).
`stepAtReset` alone is not in R8: it is the model's own. -/
structure Config where
  hasCsr : Bool
  hasClc : Bool
  hasInt : Bool
  hasDbg : Bool
  hasMad : Bool
  hasTimer : Bool
  hasTimerCmp : Bool
  hasGpr : Bool
  cpuid : Half
  timerMode : TimerMode
  immUl : ImmLen
  immLk8 : ImmLen
  immLk16 : ImmLen
  immSpe : ImmLen
  nibbleOrder : NibbleOrder
  raccDir : RotDir
  subBin : BorrowIn
  nvRule : NvRule
  xopAtomic : Bool
  cmpAtomic : Bool
  rsvBehaviour : RsvBehaviour
  resetImage : ResetImage
  /-- MEM_INIT, the memory at power-on, in the canonical form of Memory (notes/assumptions/4.md) -/
  memInit : List Host.Cell
  madFn : MadFn
  stepAtReset : StepAtReset
deriving DecidableEq, Repr

/-- CPUID_VALUE, "implementation-defined": any fixed 16-bit value (10_state.md R52). DESIGN CHOICE: no
value is chosen, so no proof can rest on one (notes/assumptions/3.md). Safe. -/
opaque Config.cpuidValue : Half

/-- The free number of further timer increments in one step of `cycle` mode, drawn by the index of the
draw (60_exceptions.md R370, 93_implementation_defined.md U6). A step makes one increment more than
this number, so the amount is positive. DESIGN CHOICE, safe (notes/assumptions/6.md). -/
opaque Config.cycleTicks : Nat → Nat

/-- The free value of N after an ALU instruction where NV_RULE leaves it open, by the index of the draw
(93_implementation_defined.md U7). DESIGN CHOICE, safe (notes/assumptions/23.md). -/
opaque Config.freeN : Nat → Bool

/-- The free value of V after an ALU instruction where NV_RULE leaves it open, by the index of the draw
(93_implementation_defined.md U7). DESIGN CHOICE, safe (notes/assumptions/23.md). -/
opaque Config.freeV : Nat → Bool

/-- The dependencies between parameters of 00_scope.md R9; no configuration is excluded by it: DESIGN CHOICE,
safe (notes/assumptions/18.md). -/
def Config.valid (p : Config) : Bool :=
  (!p.hasDbg || p.hasInt) && (!p.hasTimerCmp || p.hasTimer) && (!p.hasMad || p.hasCsr)

end Sys2Proof
end

