-- ==== Sys2Proof/Syntax.lean ====
section
/-! DEFINITION. The instructions: one constructor for each row of spec/opcode_table.json. A mnemonic with
two rows (one and two immediate nibbles) has two constructors, with suffix 4 and 8 for the immediate's
bits. Operand fields are named bit fields, decoded once (30_encoding.md R116, R128, R129). -/

namespace Sys2Proof

/-- XMEM function bit OP (30_encoding.md R128). -/
inductive MemOp where
  | load
  | store
deriving DecidableEq, Repr

/-- XMEM function bit DIR (30_encoding.md R128). -/
inductive StrideDir where
  | up
  | down
deriving DecidableEq, Repr

/-- XMEM function bit AR: the address register (30_encoding.md R128). -/
inductive AddrReg where
  | ra0
  | ra1
deriving DecidableEq, Repr

/-- MAD control field SHIFT; the last code is 4, not 3 (30_encoding.md R129). -/
inductive MadShift where
  | by0
  | by1
  | by2
  | by4
deriving DecidableEq, Repr

/-- MAD control field LANE (30_encoding.md R129). -/
inductive Lane where
  | low
  | high
deriving DecidableEq, Repr

/-- One constructor for each row of the opcode table, in the table's order (30_encoding.md R120, R121). -/
inductive Instr where
  | add
  | addi4 (imm : Nibble)
  | addi8 (imm : Byte)
  | sub
  | subi4 (imm : Nibble)
  | subi8 (imm : Byte)
  | inc
  | dec
  | and_
  | andi4 (imm : Nibble)
  | andi8 (imm : Byte)
  | inv
  | or_
  | ori4 (imm : Nibble)
  | ori8 (imm : Byte)
  | xor_
  | xori4 (imm : Nibble)
  | xori8 (imm : Byte)
  | shl
  | shr
  | btst
  | btsti4 (imm : Nibble)
  | btsti8 (imm : Byte)
  | tst
  | tsti4 (imm : Nibble)
  | tsti8 (imm : Byte)
  | beqz4 (imm : Nibble)
  | beqz8 (imm : Byte)
  | bc4 (imm : Nibble)
  | bc8 (imm : Byte)
  | jal
  | jmp
  | cmp
  | cfg (imm : Byte)
  | racc
  | rrs
  | csrld (idx : Nibble)
  | csrst (idx : Nibble)
  | nop0110
  | nop0110x
  | rss
  | rsa
  | ss
  | sa
  | ldi4 (imm : Nibble)
  | ldi8 (imm : Byte)
  | clc
  | rsv0100
  | xmem (op : MemOp) (post : Bool) (dir : StrideDir) (ar : AddrReg)
  | xop
  | nop
  | reti
  | swi
  | wfi
  | mad (shift : MadShift) (sat : Bool) (lane : Lane)
  | max_
  | min_
  | rsv1100
  | rsv1000
  | rsv0000
deriving DecidableEq, Repr

end Sys2Proof
end

