-- ==== Sys2Proof/WellFormed.lean ====
section
/-! DEFINITION. Which row of the opcode table applies in which decode context: the `xop` column and the
`when` condition of each row (30_encoding.md R117, R121, R127). An instruction is well formed in a
context when its row's condition holds there. -/

namespace Sys2Proof

/-- All that decoding reads besides the nibble stream (30_encoding.md R119): the parameters, the column
(XOPP), CFG.IMM, CFG.BW, the link mode and its IMM_NIBBLES(W) (30_encoding.md R117). -/
structure DecodeCtx where
  par : Config
  ext : Bool
  imm : Bool
  bw : Bool
  mode : LinkMode
  len : ImmLen
deriving DecidableEq, Repr

/-- `wide` of 30_encoding.md R119: LK16, or SPE with the MAD profile. -/
def DecodeCtx.wide (c : DecodeCtx) : Bool := c.mode == .lk16 || c.mode == .spe

/-- `spe` of 30_encoding.md R119. -/
def DecodeCtx.spe (c : DecodeCtx) : Bool := c.mode == .spe

/-- The row of an ALU register form applies: Default or Extended column, CFG.IMM = 0. -/
def DecodeCtx.regForm (c : DecodeCtx) (ext : Bool) : Bool := c.ext == ext && !c.imm

/-- The row of an ALU immediate form applies: CFG.IMM = 1 and IMM_NIBBLES(W) is the row's. -/
def DecodeCtx.immForm (c : DecodeCtx) (ext : Bool) (len : ImmLen) : Bool :=
  c.ext == ext && c.imm && c.len == len

/-- The table's `xop` and `when` columns, row by row (30_encoding.md R121, R127). -/
def Instr.wellFormed (c : DecodeCtx) : Instr → Bool
  | .add => c.regForm false
  | .addi4 _ => c.immForm false .one
  | .addi8 _ => c.immForm false .two
  | .sub => c.regForm true
  | .subi4 _ => c.immForm true .one
  | .subi8 _ => c.immForm true .two
  | .inc => !c.ext
  | .dec => c.ext
  | .and_ => c.regForm false
  | .andi4 _ => c.immForm false .one
  | .andi8 _ => c.immForm false .two
  | .inv => c.ext
  | .or_ => c.regForm false
  | .ori4 _ => c.immForm false .one
  | .ori8 _ => c.immForm false .two
  | .xor_ => c.regForm true
  | .xori4 _ => c.immForm true .one
  | .xori8 _ => c.immForm true .two
  | .shl => !c.ext
  | .shr => c.ext
  | .btst => c.regForm false
  | .btsti4 _ => c.immForm false .one
  | .btsti8 _ => c.immForm false .two
  | .tst => c.regForm true
  | .tsti4 _ => c.immForm true .one
  | .tsti8 _ => c.immForm true .two
  | .beqz4 _ => !c.ext && !c.bw
  | .beqz8 _ => !c.ext && c.bw
  | .bc4 _ => c.ext && !c.bw
  | .bc8 _ => c.ext && c.bw
  | .jal => !c.ext
  | .jmp => c.ext
  | .cmp => !c.ext
  | .cfg _ => c.ext
  | .racc => !c.ext && !c.wide
  | .rrs => c.ext && !c.wide
  | .csrld _ => !c.ext && c.wide && c.par.hasCsr
  | .csrst _ => c.ext && c.wide && c.par.hasCsr
  | .nop0110 => !c.ext && c.wide && !c.par.hasCsr
  | .nop0110x => c.ext && c.wide && !c.par.hasCsr
  | .rss => !c.ext
  | .rsa => c.ext
  | .ss => !c.ext
  | .sa => c.ext
  | .ldi4 _ => !c.ext && c.len == .one
  | .ldi8 _ => !c.ext && c.len == .two
  | .clc => c.ext && c.par.hasClc
  | .rsv0100 => c.ext && !c.par.hasClc
  | .xmem _ _ _ _ => !c.ext
  | .xop => !c.ext
  | .nop => !c.ext
  | .reti => c.ext && !c.spe && c.par.hasInt
  | .swi => c.ext && !c.spe && c.par.hasInt
  | .wfi => c.ext && !c.spe && c.par.hasInt
  | .mad _ _ _ => c.ext && c.spe
  | .max_ => c.ext && c.spe
  | .min_ => c.ext && c.spe
  | .rsv1100 => c.ext && !c.spe && !c.par.hasInt
  | .rsv1000 => c.ext && !c.spe && !c.par.hasInt
  | .rsv0000 => c.ext && !c.spe && !c.par.hasInt

end Sys2Proof
end

