-- ==== Sys2Proof/Decode.lean ====
section
/-! DEFINITION. The decoder and the encoder. Decoding is a function of the nibble stream and of the
decode context (30_encoding.md R119 to R121); it is total, and the only stream it rejects is one that
ends inside an instruction. The fetch loop hands it nibbles in fetch order. -/

namespace Sys2Proof

/-- The default RESET_IMAGE: all zero (00_scope.md R8, decision D25). -/
def ResetImage.zero : ResetImage where
  acc := 0
  rs0 := 0
  rs1 := 0
  ra0 := 0
  ra1 := 0
  c := false
  n := false
  v := false
  ia := 0
  iar := 0
  swIE := false
  extIE := false
  tIE := false
  timer := 0
  timerCmp := 0
  gpr1 := 0
  gpr2 := 0
  gpr3 := 0

/-- The default column of the parameter table (00_scope.md R8): the configuration of State.reset. -/
def Config.default : Config where
  hasCsr := true
  hasClc := true
  hasInt := true
  hasDbg := false
  hasMad := false
  hasTimer := false
  hasTimerCmp := false
  hasGpr := false
  cpuid := Config.cpuidValue
  timerMode := .retired
  immUl := .one
  immLk8 := .two
  immLk16 := .two
  immSpe := .two
  nibbleOrder := .lowFirst
  raccDir := .right
  subBin := .notCarry
  nvRule := .arithmetic
  xopAtomic := false
  cmpAtomic := false
  rsvBehaviour := .noOp
  resetImage := ResetImage.zero
  memInit := []
  madFn := .exactSum
  stepAtReset := .follows

/-- The reset values of a core: the registers of an absent profile are 0 whatever the image says
(10_state.md R44 to R51, 60_exceptions.md R345). -/
def Config.resetValues (p : Config) : ResetImage :=
  { p.resetImage with
    ia := if p.hasInt then p.resetImage.ia else 0
    iar := if p.hasInt then p.resetImage.iar else 0
    swIE := p.hasInt && p.resetImage.swIE
    extIE := p.hasInt && p.resetImage.extIE
    tIE := p.hasInt && p.hasTimerCmp && p.resetImage.tIE
    timer := if p.hasTimer then p.resetImage.timer else 0
    timerCmp := if p.hasTimerCmp then p.resetImage.timerCmp else 0
    gpr1 := if p.hasGpr then p.resetImage.gpr1 else 0
    gpr2 := if p.hasGpr then p.resetImage.gpr2 else 0
    gpr3 := if p.hasGpr then p.resetImage.gpr3 else 0 }

/-- The link mode that CFG.W selects; 0b11 without the MAD profile has no defined behaviour
(10_state.md R27, R33). -/
def linkModeOf (p : Config) (w : BitVec 2) : Option LinkMode :=
  match w.toNat with
  | 0 => some .ul
  | 1 => some .lk8
  | 2 => some .lk16
  | _ => if p.hasMad then some .spe else none

/-- IMM_NIBBLES(W), the length of an ALU or LDi immediate (30_encoding.md R117). -/
def immLenOf (p : Config) (m : LinkMode) : ImmLen :=
  match m with
  | .ul => p.immUl
  | .lk8 => p.immLk8
  | .lk16 => p.immLk16
  | .spe => p.immSpe

/-- The decode context in link mode `m` (30_encoding.md R119): the column is XOPP, `imm` is CFG bit 3
and `bw` is CFG bit 6 (10_state.md R27). -/
def decodeCtxOf (p : Config) (xopp : Bool) (cfg : Byte) (m : LinkMode) : DecodeCtx where
  par := p
  ext := xopp
  imm := cfg.getLsbD 3
  bw := cfg.getLsbD 6
  mode := m
  len := immLenOf p m

/-! ### Fields of an instruction's nibbles -/

/-- `imm8 = {n1, n0}`: the second nibble fetched is the more significant (30_encoding.md R118, the spec's
decision D5). -/
def imm8Of (n0 n1 : Nibble) : Byte := (n1 ++ n0 : BitVec 8)

/-- f[3] of the XMEM function nibble (30_encoding.md R128). -/
def memOpOf (f : Nibble) : MemOp := if f.getLsbD 3 then .store else .load

/-- f[1] of the XMEM function nibble (30_encoding.md R128). -/
def strideDirOf (f : Nibble) : StrideDir := if f.getLsbD 1 then .down else .up

/-- f[0] of the XMEM function nibble (30_encoding.md R128). -/
def addrRegOf (f : Nibble) : AddrReg := if f.getLsbD 0 then .ra1 else .ra0

/-- n[3:2] of the MAD control nibble (30_encoding.md R129). -/
def madShiftOf (n : Nibble) : MadShift :=
  match n.getLsbD 3, n.getLsbD 2 with
  | false, false => .by0
  | false, true => .by1
  | true, false => .by2
  | true, true => .by4

/-- n[0] of the MAD control nibble (30_encoding.md R129). -/
def laneOf (n : Nibble) : Lane := if n.getLsbD 0 then .high else .low

/-! ### The decoder -/

/-- An instruction whose operand is an ALU immediate of one or two nibbles (30_encoding.md R117). -/
def byImmLen (len : ImmLen) (n0 n1 : Nibble) (i4 : Nibble → Instr) (i8 : Byte → Instr) : Instr :=
  match len with
  | .one => i4 n0
  | .two => i8 (imm8Of n0 n1)

/-- ADD, SUB, AND, OR, XOR, BTST, TST: the register form, or with CFG.IMM = 1 the immediate form
(30_encoding.md R117). -/
def aluForm (c : DecodeCtx) (n0 n1 : Nibble) (reg : Instr) (i4 : Nibble → Instr) (i8 : Byte → Instr) :
    Instr :=
  if c.imm then byImmLen c.len n0 n1 i4 i8 else reg

/-- BEQz and BC: one or two immediate nibbles by CFG.BW (30_encoding.md R117). -/
def branchForm (c : DecodeCtx) (n0 n1 : Nibble) (i4 : Nibble → Instr) (i8 : Byte → Instr) : Instr :=
  if c.bw then i8 (imm8Of n0 n1) else i4 n0

/-- The Default column of the opcode map (30_encoding.md R120, R121). -/
def decodeDefault (c : DecodeCtx) (op n0 n1 : Nibble) : Instr :=
  match op.toNat with
  | 0 => .nop
  | 1 => aluForm c n0 n1 .add .addi4 .addi8
  | 2 => .cmp
  | 3 => .shl
  | 4 => byImmLen c.len n0 n1 .ldi4 .ldi8
  | 5 => aluForm c n0 n1 .and_ .andi4 .andi8
  | 6 => if c.wide then (if c.par.hasCsr then .csrld n0 else .nop0110) else .racc
  | 7 => branchForm c n0 n1 .beqz4 .beqz8
  | 8 => .xop
  | 9 => .inc
  | 10 => .rss
  | 11 => aluForm c n0 n1 .btst .btsti4 .btsti8
  | 12 => .xmem (memOpOf n0) (n0.getLsbD 2) (strideDirOf n0) (addrRegOf n0)
  | 13 => aluForm c n0 n1 .or_ .ori4 .ori8
  | 14 => .ss
  | _ => .jal

/-- The Extended column of the opcode map (30_encoding.md R120, R121). -/
def decodeExtended (c : DecodeCtx) (op n0 n1 : Nibble) : Instr :=
  match op.toNat with
  | 0 => if c.spe then .min_ else if c.par.hasInt then .wfi else .rsv0000
  | 1 => aluForm c n0 n1 .sub .subi4 .subi8
  | 2 => .cfg (imm8Of n0 n1)
  | 3 => .shr
  | 4 => if c.par.hasClc then .clc else .rsv0100
  | 5 => .inv
  | 6 => if c.wide then (if c.par.hasCsr then .csrst n0 else .nop0110x) else .rrs
  | 7 => branchForm c n0 n1 .bc4 .bc8
  | 8 => if c.spe then .max_ else if c.par.hasInt then .swi else .rsv1000
  | 9 => .dec
  | 10 => .rsa
  | 11 => aluForm c n0 n1 .tst .tsti4 .tsti8
  | 12 =>
    if c.spe then .mad (madShiftOf n0) (n0.getLsbD 1) (laneOf n0)
    else if c.par.hasInt then .reti else .rsv1100
  | 13 => aluForm c n0 n1 .xor_ .xori4 .xori8
  | 14 => .sa
  | _ => .jmp

/-- The instruction whose opcode nibble is `op`, where `n0` and `n1` are the nibbles that follow it in
the stream; those it does not use are not part of it (30_encoding.md R119). -/
def decodeNibbles (c : DecodeCtx) (op n0 n1 : Nibble) : Instr :=
  if c.ext then decodeExtended c op n0 n1 else decodeDefault c op n0 n1

/-- Number of immediate nibbles of an instruction (30_encoding.md R117). -/
def Instr.immNibbles : Instr → Nat
  | .addi4 _ | .subi4 _ | .andi4 _ | .ori4 _ | .xori4 _ | .btsti4 _ | .tsti4 _ => 1
  | .addi8 _ | .subi8 _ | .andi8 _ | .ori8 _ | .xori8 _ | .btsti8 _ | .tsti8 _ => 2
  | .beqz4 _ | .bc4 _ => 1
  | .beqz8 _ | .bc8 _ => 2
  | .cfg _ => 2
  | .csrld _ | .csrst _ => 1
  | .ldi4 _ => 1
  | .ldi8 _ => 2
  | .xmem _ _ _ _ => 1
  | .mad _ _ _ => 1
  | .add | .sub | .and_ | .or_ | .xor_ | .btst | .tst => 0
  | .inc | .dec | .inv | .shl | .shr | .jal | .jmp | .cmp | .racc | .rrs => 0
  | .nop0110 | .nop0110x | .rss | .rsa | .ss | .sa | .clc | .rsv0100 | .xop | .nop => 0
  | .reti | .swi | .wfi | .max_ | .min_ | .rsv1100 | .rsv1000 | .rsv0000 => 0

/-- Number of nibbles of an instruction, without an XOP before it (30_encoding.md R110). -/
def Instr.nibbles (i : Instr) : Nat := i.immNibbles + 1

/-- Why a stream is rejected: it ends before the instruction does. A fetch from memory never meets it,
since memory has no end (20_memory.md R100). -/
inductive DecodeError where
  | truncated
deriving DecidableEq, Repr

/-- Decode one instruction from a stream of nibbles in fetch order; answers it with the rest of the
stream (30_encoding.md R119). -/
def decode (c : DecodeCtx) : List Nibble → Except DecodeError (Instr × List Nibble)
  | [] => .error .truncated
  | op :: rest =>
    let i := decodeNibbles c op (rest.getD 0 0) (rest.getD 1 0)
    if rest.length < i.immNibbles then .error .truncated else .ok (i, rest.drop i.immNibbles)

/-! ### The encoder -/

/-- The low nibble of a byte, bits 3:0. -/
def lowNibble (b : Byte) : Nibble := b.extractLsb' 0 4

/-- The high nibble of a byte, bits 7:4. -/
def highNibble (b : Byte) : Nibble := b.extractLsb' 4 4

/-- The XMEM function nibble {OP, AM, DIR, AR} (30_encoding.md R128). -/
def xmemNibble (op : MemOp) (post : Bool) (dir : StrideDir) (ar : AddrReg) : Nibble :=
  BitVec.ofBool (op == .store) ++ BitVec.ofBool post ++ BitVec.ofBool (dir == .down)
    ++ BitVec.ofBool (ar == .ra1)

/-- The SHIFT code (30_encoding.md R129). -/
def madShiftBits (sh : MadShift) : BitVec 2 :=
  match sh with
  | .by0 => 0b00#2
  | .by1 => 0b01#2
  | .by2 => 0b10#2
  | .by4 => 0b11#2

/-- The MAD control nibble {SHIFT[1:0], SAT, LANE} (30_encoding.md R129). -/
def madNibble (sh : MadShift) (sat : Bool) (lane : Lane) : Nibble :=
  madShiftBits sh ++ BitVec.ofBool sat ++ BitVec.ofBool (lane == .high)

/-- An opcode and the two nibbles of an imm8, low nibble first (format OP-I8, 30_encoding.md R116). -/
def opI8 (op : Nibble) (imm : Byte) : List Nibble := [op, lowNibble imm, highNibble imm]

/-- The nibbles of an instruction in fetch order, without an XOP before it: the table's `encoding` column
after any XOP nibble (30_encoding.md R116, R120, R127). -/
def encode : Instr → List Nibble
  | .add => [0b0001#4]
  | .addi4 imm => [0b0001#4, imm]
  | .addi8 imm => opI8 0b0001#4 imm
  | .sub => [0b0001#4]
  | .subi4 imm => [0b0001#4, imm]
  | .subi8 imm => opI8 0b0001#4 imm
  | .inc => [0b1001#4]
  | .dec => [0b1001#4]
  | .and_ => [0b0101#4]
  | .andi4 imm => [0b0101#4, imm]
  | .andi8 imm => opI8 0b0101#4 imm
  | .inv => [0b0101#4]
  | .or_ => [0b1101#4]
  | .ori4 imm => [0b1101#4, imm]
  | .ori8 imm => opI8 0b1101#4 imm
  | .xor_ => [0b1101#4]
  | .xori4 imm => [0b1101#4, imm]
  | .xori8 imm => opI8 0b1101#4 imm
  | .shl => [0b0011#4]
  | .shr => [0b0011#4]
  | .btst => [0b1011#4]
  | .btsti4 imm => [0b1011#4, imm]
  | .btsti8 imm => opI8 0b1011#4 imm
  | .tst => [0b1011#4]
  | .tsti4 imm => [0b1011#4, imm]
  | .tsti8 imm => opI8 0b1011#4 imm
  | .beqz4 imm => [0b0111#4, imm]
  | .beqz8 imm => opI8 0b0111#4 imm
  | .bc4 imm => [0b0111#4, imm]
  | .bc8 imm => opI8 0b0111#4 imm
  | .jal => [0b1111#4]
  | .jmp => [0b1111#4]
  | .cmp => [0b0010#4]
  | .cfg imm => opI8 0b0010#4 imm
  | .racc => [0b0110#4]
  | .rrs => [0b0110#4]
  | .csrld idx => [0b0110#4, idx]
  | .csrst idx => [0b0110#4, idx]
  | .nop0110 => [0b0110#4]
  | .nop0110x => [0b0110#4]
  | .rss => [0b1010#4]
  | .rsa => [0b1010#4]
  | .ss => [0b1110#4]
  | .sa => [0b1110#4]
  | .ldi4 imm => [0b0100#4, imm]
  | .ldi8 imm => opI8 0b0100#4 imm
  | .clc => [0b0100#4]
  | .rsv0100 => [0b0100#4]
  | .xmem op post dir ar => [0b1100#4, xmemNibble op post dir ar]
  | .xop => [0b1000#4]
  | .nop => [0b0000#4]
  | .reti => [0b1100#4]
  | .swi => [0b1000#4]
  | .wfi => [0b0000#4]
  | .mad sh sat lane => [0b1100#4, madNibble sh sat lane]
  | .max_ => [0b1000#4]
  | .min_ => [0b0000#4]
  | .rsv1100 => [0b1100#4]
  | .rsv1000 => [0b1000#4]
  | .rsv0000 => [0b0000#4]

/-- The instruction stands in the Extended column: the table's `xop` column (30_encoding.md R120, R121). -/
def Instr.extended : Instr → Bool
  | .sub | .subi4 _ | .subi8 _ | .dec | .inv | .xor_ | .xori4 _ | .xori8 _ | .shr => true
  | .tst | .tsti4 _ | .tsti8 _ | .bc4 _ | .bc8 _ | .jmp | .cfg _ | .rrs | .csrst _ => true
  | .nop0110x | .rsa | .sa | .clc | .rsv0100 | .reti | .swi | .wfi => true
  | .mad _ _ _ | .max_ | .min_ | .rsv1100 | .rsv1000 | .rsv0000 => true
  | .add | .addi4 _ | .addi8 _ | .inc | .and_ | .andi4 _ | .andi8 _ => false
  | .or_ | .ori4 _ | .ori8 _ | .shl | .btst | .btsti4 _ | .btsti8 _ => false
  | .beqz4 _ | .beqz8 _ | .jal | .cmp | .racc | .csrld _ | .nop0110 | .rss | .ss => false
  | .ldi4 _ | .ldi8 _ | .xmem _ _ _ _ | .xop | .nop => false

/-- The nibbles an assembler emits for a mnemonic: XOP before an extended instruction (30_encoding.md
R125), as the table's `encoding` column writes it. -/
def assemble (i : Instr) : List Nibble := if i.extended then 0b1000#4 :: encode i else encode i

/-! ### Bytes and table words -/

/-- The nibbles of a byte in fetch order (30_encoding.md R111, 20_memory.md R87). -/
def nibblesOfByte (o : NibbleOrder) (b : Byte) : List Nibble :=
  match o with
  | .lowFirst => [lowNibble b, highNibble b]
  | .highFirst => [highNibble b, lowNibble b]

/-- A byte from its nibbles in fetch order. -/
def byteOfNibbles (o : NibbleOrder) (first second : Nibble) : Byte :=
  match o with
  | .lowFirst => (second ++ first : BitVec 8)
  | .highFirst => (first ++ second : BitVec 8)

/-- `n` nibbles of a number, the least significant first. -/
def nibblesOfNat : Nat → Nat → List Nibble
  | 0, _ => []
  | n + 1, w => BitVec.ofNat 4 w :: nibblesOfNat n (w / 16)

/-- The nibbles of a table word of `nbits` bits: the first nibble in fetch order is bits 3:0, and nibbles
of zeros follow up to the longest form (XOP and three nibbles). -/
def tableNibbles (nbits w : Nat) : List Nibble :=
  nibblesOfNat (max 4 ((nbits + 3) / 4)) (w % 2 ^ nbits)

/-- A table word split into its column and its nibbles. A word that begins with 1000 and goes on with
other bits is written as the table's `encoding` column writes an extended row, XOP nibble first; its
opcode nibble is then the second one, in the Extended column (30_encoding.md R127). -/
def tableForm (nbits w : Nat) : Bool × List Nibble :=
  match tableNibbles nbits w with
  | [] => (false, [])
  | op :: rest => if op = 0b1000#4 ∧ rest.any (· != 0) then (true, rest) else (false, op :: rest)

/-- The decode context of the reset state: UL, CFG = 0x00 and the default parameters (10_state.md R59,
70_reset_and_hazards.md R391). -/
def resetCtx (ext : Bool) : DecodeCtx := decodeCtxOf Config.default ext 0 .ul

/-- The instruction the decoder reads, in the reset configuration, from a word of the opcode table. The
table gives one nibble to match, the same for a mnemonic's register, immediate and extended rows; such
a word is read as the reset state reads it. DESIGN CHOICE, safe (notes/assumptions/17.md). -/
def decodeTableWord (nbits w : Nat) : Option Instr :=
  match decode (resetCtx (tableForm nbits w).1) (tableForm nbits w).2 with
  | .ok (i, _) => some i
  | .error _ => none

end Sys2Proof
end

