-- ==== Sys2Proof/Machine/State.lean ====
section
/-! DEFINITION. The state of the machine: every piece of state of 10_state.md as plain data, the parameter
record, the environment's events, and the reasons a step can stop. -/

namespace Sys2Proof.Machine

/-- Memory as (address, byte) pairs in one canonical form: addresses strictly rising and below 65 536, and
no byte equal to what an unlisted address reads as (20_memory.md R80; the operations are in
Machine/Ops.lean). -/
abbrev Memory := List Host.Cell

/-- What the environment may do before a step: nothing, raise the external interrupt line (10_state.md
R56, 60_exceptions.md R348), or reset the core (70_reset_and_hazards.md R390). -/
inductive EnvEvent where
  | quiet
  | extLine
  | reset
deriving DecidableEq, Repr

/-- The state of the core, its memory and what is still to come from the environment. INVENTORY.md lists
each field with its rule. `par`, `env` and `draws` are the model's own fields. -/
structure State where
  /-- the configuration record of 00_scope.md R8; no step changes it -/
  par : Config
  /-- the accumulator, r0 in bits 3:0 (10_state.md R20) -/
  acc : Half
  /-- source register 0, the implicit second operand (10_state.md R22) -/
  rs0 : Half
  /-- source register 1 (10_state.md R22) -/
  rs1 : Half
  /-- active address register (10_state.md R23) -/
  ra0 : Half
  /-- return address register (10_state.md R23) -/
  ra1 : Half
  /-- byte address of the fetch position (10_state.md R25) -/
  pc : Half
  /-- fetch phase: the next nibble is the second one of its byte (10_state.md R26) -/
  nib : Bool
  /-- CI, BW, BRS, IE, IMM, SIGN, W from bit 7 down (10_state.md R27) -/
  cfg : Byte
  /-- carry flag (10_state.md R35) -/
  c : Bool
  /-- the internal ZERO flag (10_state.md R36) -/
  z : Bool
  /-- negative flag (10_state.md R38) -/
  n : Bool
  /-- overflow flag (10_state.md R39) -/
  v : Bool
  /-- hidden: the previous instruction was CMP (10_state.md R37) -/
  cmpp : Bool
  /-- hidden: an XOP is pending (10_state.md R40) -/
  xopp : Bool
  /-- interrupt page (10_state.md R42) -/
  ia : Byte
  /-- interrupt page latched at entry (10_state.md R43) -/
  iar : Byte
  /-- hidden: asleep in WFI (10_state.md R55) -/
  sleep : Bool
  /-- INTCTRL bit 0 (10_state.md R48) -/
  swIE : Bool
  /-- INTCTRL bit 1 (10_state.md R48) -/
  extIE : Bool
  /-- INTCTRL bit 2 (10_state.md R48) -/
  tIE : Bool
  /-- INTCTRL bit 7 (10_state.md R48) -/
  wdog : Bool
  /-- INTCTRL bit 8 (10_state.md R48) -/
  inIsr : Bool
  /-- INTCTRL bit 9 (10_state.md R48) -/
  extP : Bool
  /-- INTCTRL bit 10 (10_state.md R48) -/
  tP : Bool
  /-- INTCTRL bit 11 (10_state.md R48) -/
  swP : Bool
  /-- INTCTRL bit 12 (10_state.md R48) -/
  dbgStep : Bool
  /-- CSR1 (10_state.md R46) -/
  timer : Half
  /-- CSR2 (10_state.md R47) -/
  timerCmp : Half
  /-- CSR5 (10_state.md R51) -/
  gpr1 : Half
  /-- CSR6 (10_state.md R51) -/
  gpr2 : Half
  /-- CSR7 (10_state.md R51) -/
  gpr3 : Half
  /-- the memory (20_memory.md R80) -/
  mem : Memory
  /-- the environment's events still to come, the next one first (10_state.md R56) -/
  env : List EnvEvent
  /-- how many free values have been drawn (93_implementation_defined.md U6) -/
  draws : Nat
deriving DecidableEq, Repr

/-- MISA-O has no synchronous exception, no access fault and no instruction that can fail
(60_exceptions.md R340, 20_memory.md R83): no step ends in a fault, so this type has no value. -/
inductive Fault where
deriving DecidableEq, Repr

/-- Why the model gives a state no successor. -/
inductive Refusal where
  /-- Raised by an arm of exec whose instruction has no meaning yet. Safe. No arm raises it. -/
  | notModelled (mnemonic : String)
  /-- Raised by a step, and by every meaning, while CFG.W = 0b11 on a core without the MAD profile: "a
  model must not give it" a behaviour (10_state.md R33, 93_implementation_defined.md U3). Safe. -/
  | reservedLinkMode
  /-- Raised by the reserved extended opcodes when the parameter RSV_BEHAVIOUR is `refuse`
  (93_implementation_defined.md U1); by default they are no-ops. Safe. -/
  | reservedOpcode
deriving DecidableEq, Repr

/-- The machine at power-on with parameters `p` (10_state.md R59, R60): CFG is 0x00 by the source, execution
starts at 0x0000, phase 0, the hidden bits and the rest of INTCTRL are 0 by decision D25, the other
registers take RESET_IMAGE and memory holds MEM_INIT. The environment is quiet (DESIGN CHOICE,
notes/assumptions/7.md) and nothing has been drawn. -/
def State.powerOn (p : Config) : State where
  par := p
  acc := p.resetValues.acc
  rs0 := p.resetValues.rs0
  rs1 := p.resetValues.rs1
  ra0 := p.resetValues.ra0
  ra1 := p.resetValues.ra1
  pc := 0
  nib := false
  cfg := 0
  c := p.resetValues.c
  z := false
  n := p.resetValues.n
  v := p.resetValues.v
  cmpp := false
  xopp := false
  ia := p.resetValues.ia
  iar := p.resetValues.iar
  sleep := false
  swIE := p.resetValues.swIE
  extIE := p.resetValues.extIE
  tIE := p.resetValues.tIE
  wdog := false
  inIsr := false
  extP := false
  tP := false
  swP := false
  dbgStep := false
  timer := p.resetValues.timer
  timerCmp := p.resetValues.timerCmp
  gpr1 := p.resetValues.gpr1
  gpr2 := p.resetValues.gpr2
  gpr3 := p.resetValues.gpr3
  mem := p.memInit
  env := []
  draws := 0

/-- The machine right after reset, with the spec's default parameters: every register is zero by the spec's
reading of the "Registers Overview" figure (decision D25, notes/assumptions/5.md) and memory lists nothing
(DESIGN CHOICE, notes/assumptions/4.md). -/
def State.reset : State := State.powerOn Config.default

end Sys2Proof.Machine
end

