-- ==== Sys2Proof/Machine/Operands.lean ====
section
/-! DEFINITION. What an instruction reads and writes: the fields of CFG, the link mode and its width, the
active accumulator, the second operand, immediates, branch offsets, addresses (00_scope.md R12,
10_state.md R20 to R34, 30_encoding.md R113, R118). -/

namespace Sys2Proof.Machine

/-! ### Fields of CFG (10_state.md R27) -/

/-- CFG.CI, bit 7: the carry input is enabled (10_state.md R28). -/
def State.ci (s : State) : Bool := s.cfg.getLsbD 7

/-- CFG.BRS, bit 5: branch offsets are scaled by 4 (10_state.md R29). -/
def State.brs (s : State) : Bool := s.cfg.getLsbD 5

/-- CFG.IE, bit 4: the global interrupt enable (10_state.md R30). -/
def State.ie (s : State) : Bool := s.cfg.getLsbD 4

/-- CFG.SIGN, bit 2: read by MAD, MAX and MIN only (10_state.md R32). -/
def State.sign (s : State) : Bool := s.cfg.getLsbD 2

/-- The link mode of CFG.W, bits 1:0; `none` is W = 0b11 without the MAD profile (10_state.md R33). -/
def State.linkMode (s : State) : Option LinkMode := linkModeOf s.par (s.cfg.extractLsb' 0 2)

/-- The decode context of a state in link mode `m` (30_encoding.md R119). -/
def State.decodeCtx (s : State) (m : LinkMode) : DecodeCtx := decodeCtxOf s.par s.xopp s.cfg m

/-! ### The active width -/

/-- `Wb`, the active width in bits (00_scope.md R12). -/
def width (m : LinkMode) : Nat :=
  match m with
  | .ul => 4
  | .lk8 => 8
  | .lk16 => 16
  | .spe => 16

/-- `x[w-1:0]` as an unsigned number (00_scope.md R10). -/
def lowBits (w : Nat) (x : Half) : Nat := x.toNat % 2 ^ w

/-- `x` with `x[w-1:0]` replaced by `v mod 2^w`; the bits above stay (00_scope.md R12). -/
def putLow (w : Nat) (x : Half) (v : Nat) : Half :=
  BitVec.ofNat 16 (x.toNat / 2 ^ w * 2 ^ w + v % 2 ^ w)

/-- `signed_w(v)` (00_scope.md R10). -/
def signed (w v : Nat) : Int := if v < 2 ^ (w - 1) then (v : Int) else (v : Int) - 2 ^ w

/-- `A`, the active accumulator (00_scope.md R12, 10_state.md R21). -/
def State.active (s : State) (m : LinkMode) : Nat := lowBits (width m) s.acc

/-- `S`, the low `Wb` bits of RS0 (00_scope.md R12). -/
def State.source (s : State) (m : LinkMode) : Nat := lowBits (width m) s.rs0

/-- `A <- v`: ACC[15:Wb] keeps its value (00_scope.md R12). -/
def State.setActive (s : State) (m : LinkMode) (v : Nat) : State :=
  { s with acc := putLow (width m) s.acc v }

/-- `imm_W`, the immediate zero-extended to `Wb` bits (30_encoding.md R118). An immediate wider than `Wb`
(possible only under an IMM_NIBBLES other than the default) keeps its low bits
DEDUCED, unsafe there (notes/assumptions/15.md). -/
def immOperand {k : Nat} (m : LinkMode) (imm : BitVec k) : Nat := imm.toNat % 2 ^ width m

/-- `cin`: C if CFG.CI = 1, else 0 (00_scope.md R12, 10_state.md R28). -/
def State.carryIn (s : State) : Nat := if s.ci then s.c.toNat else 0

/-- `bin`, the borrow input of SUB: with CI = 0 it is 0; with CI = 1 it is `1 - C`, or C where the
parameter SUB_BIN says so (40_arithmetic.md R152). -/
def State.borrowIn (s : State) : Nat :=
  if s.ci then
    match s.par.subBin with
    | .notCarry => 1 - s.c.toNat
    | .carry => s.c.toNat
  else 0

/-! ### Fetch position and branch targets -/

/-- `PC_next`: the first byte boundary at or after the fetch position (30_encoding.md R113). -/
def State.pcNext (s : State) : Half := if s.nib then s.pc + 1 else s.pc

/-- `pc <- target`: every control transfer lands on the first nibble of a byte (30_encoding.md R114). -/
def State.jumpTo (s : State) (target : Half) : State := { s with pc := target, nib := false }

/-- `off`: the sign-extended branch immediate, shifted by CFG.BRS (30_encoding.md R118). -/
def State.branchOffset {k : Nat} (s : State) (imm : BitVec k) : Half :=
  if s.brs then imm.signExtend 16 <<< 2 else imm.signExtend 16

/-! ### XMEM addressing -/

/-- The selected address register of XMEM (45_xmem.md R260). -/
def State.addrReg (s : State) (ar : AddrReg) : Half :=
  match ar with
  | .ra0 => s.ra0
  | .ra1 => s.ra1

/-- Write the selected address register. -/
def State.setAddrReg (s : State) (ar : AddrReg) (v : Half) : State :=
  match ar with
  | .ra0 => { s with ra0 := v }
  | .ra1 => { s with ra1 := v }

/-- The stride of XMEM in bytes: 2 where the width is 16, else 1 (45_xmem.md R260). -/
def stride (m : LinkMode) : Half := if width m = 16 then 2 else 1

end Sys2Proof.Machine
end

