-- ==== Sys2Proof/Machine/Flags.lean ====
section
/-! DEFINITION. Results and flags as pure functions of numbers: sums and differences with carry, sign and
overflow (40_arithmetic.md R150), the rotation of RACC and RRS, the MAD arithmetic, the flag byte. -/

namespace Sys2Proof.Machine

/-- A result of `Wb` bits with the flags ADD, SUB, INC, DEC and CMP write (10_state.md R35, R38, R39). -/
structure AluResult where
  value : Nat
  carry : Bool
  negative : Bool
  overflow : Bool
deriving DecidableEq, Repr

/-- The exact signed result does not fit in `w` bits (40_arithmetic.md R150). -/
def outOfRange (w : Nat) (x : Int) : Bool := decide (x < -(2 ^ (w - 1)) ∨ 2 ^ (w - 1) ≤ x)

/-- `r[w-1]`, the sign bit of a `w`-bit pattern (10_state.md R38). -/
def signBit (w r : Nat) : Bool := decide (2 ^ (w - 1) ≤ r)

/-- `a + b + cin` in `w` bits; C is the carry-out (40_arithmetic.md R150, R151). -/
def addResult (w a b cin : Nat) : AluResult where
  value := (a + b + cin) % 2 ^ w
  carry := decide (2 ^ w ≤ a + b + cin)
  negative := signBit w ((a + b + cin) % 2 ^ w)
  overflow := outOfRange w (signed w a + signed w b + cin)

/-- `a - b - bin` as an exact integer, reduced modulo `2^w` (40_arithmetic.md R152). -/
def diffMod (w a b bin : Nat) : Nat := (((a : Int) - b - bin) % 2 ^ w).toNat

/-- `a - b - bin` in `w` bits; C is NOT(borrow-out) (40_arithmetic.md R150, R152). -/
def subResult (w a b bin : Nat) : AluResult where
  value := diffMod w a b bin
  carry := decide (b + bin ≤ a)
  negative := signBit w (diffMod w a b bin)
  overflow := outOfRange w (signed w a - signed w b - bin)

/-- RACC and RRS: rotate 16 bits by `w`; to the right, the low `w` bits become the highest
(44_structural.md R234, R235). -/
def rotate16 (d : RotDir) (w : Nat) (x : Half) : Half :=
  match d with
  | .right => BitVec.ofNat 16 (x.toNat % 2 ^ w * 2 ^ (16 - w) + x.toNat / 2 ^ w)
  | .left => BitVec.ofNat 16 (x.toNat % 2 ^ (16 - w) * 2 ^ w + x.toNat / 2 ^ (16 - w))

/-- The FLAGS byte {0, 0, 0, 0, V, N, Z, C} (10_state.md R41). -/
def State.flagsByte (s : State) : Byte :=
  0#4 ++ BitVec.ofBool s.v ++ BitVec.ofBool s.n ++ BitVec.ofBool s.z ++ BitVec.ofBool s.c

/-! ### MAD (48_mad_profile.md R322) -/

/-- The shift amount of a SHIFT code (30_encoding.md R129). -/
def madShiftAmount (sh : MadShift) : Nat :=
  match sh with
  | .by0 => 0
  | .by1 => 1
  | .by2 => 2
  | .by4 => 4

/-- The selected 8-bit lane of a source register (48_mad_profile.md R321). -/
def laneOfReg (lane : Lane) (x : Half) : Nat :=
  match lane with
  | .low => x.toNat % 256
  | .high => x.toNat / 256

/-- `v` read as a signed or an unsigned `w`-bit number (CFG.SIGN, 48_mad_profile.md R321). -/
def readAs (sign : Bool) (w v : Nat) : Int := if sign then signed w v else (v : Int)

/-- The product of the two lanes (48_mad_profile.md R322). -/
def madProduct (sign : Bool) (o1 o2 : Nat) : Int := readAs sign 8 o1 * readAs sign 8 o2

/-- The accumulation: the exact sum, or (parameter MAD_FN) the sum wrapped to 16 bits
(48_mad_profile.md R322). The signed reading of the wrapped sum is DEDUCED, unsafe off the default
(notes/assumptions/16.md). -/
def madSum (fn : MadFn) (sign : Bool) (acc : Nat) (p : Int) : Int :=
  match fn with
  | .exactSum => readAs sign 16 acc + p
  | .wrapFirst => readAs sign 16 ((readAs sign 16 acc + p) % 65536).toNat

/-- Clamp to the 16-bit range of the signedness (48_mad_profile.md R322). -/
def madClamp (sign : Bool) (t : Int) : Int :=
  if sign then min (max t (-32768)) 32767 else min (max t 0) 65535

/-- The shifted and, with SAT, clamped accumulation (48_mad_profile.md R322); `/` by a positive power of
two rounds down. -/
def madShifted (fn : MadFn) (sign sat : Bool) (sh : MadShift) (acc : Nat) (p : Int) : Int :=
  if sat then madClamp sign (madSum fn sign acc p / 2 ^ madShiftAmount sh)
  else madSum fn sign acc p / 2 ^ madShiftAmount sh

/-- C of MAD: the carry-out of adding the two 16-bit patterns (48_mad_profile.md R322). -/
def madCarry (acc : Nat) (p : Int) : Bool := decide (65536 ≤ acc + (p % 65536).toNat)

end Sys2Proof.Machine
end

