-- ==== Sys2Proof/Machine/Ops.lean ====
section
/-! DEFINITION. The shared operations: memory, completion of an instruction, the register operations the
meanings are lines over, CSR access, trap entry and return, the timer, reset, fetch, and the step of
60_exceptions.md R348 with the dispatch as an argument. -/

namespace Sys2Proof.Machine

/-! ### Memory (20_memory.md R80 to R85, R100) -/

/-- What an address that is not listed reads as, where the host supplied no byte (MEM_INIT). DESIGN
CHOICE 0x00, unsafe (notes/assumptions/4.md). -/
def initByte : Byte := 0

/-- The byte listed for an address. -/
def lookupByte : Memory → Nat → Byte
  | [], _ => initByte
  | (k, b) :: rest, a => if k = a then b else lookupByte rest a

/-- Put a byte for an address, keeping the canonical form. -/
def insertByte : Memory → Nat → Byte → Memory
  | [], a, v => if v = initByte then [] else [(a, v)]
  | (k, b) :: rest, a, v =>
    if a < k then (if v = initByte then (k, b) :: rest else (a, v) :: (k, b) :: rest)
    else if a = k then (if v = initByte then rest else (k, v) :: rest)
    else (k, b) :: insertByte rest a v

/-- The canonical form of a memory whose addresses start at `lo` or above. -/
def wfFrom : Nat → Memory → Bool
  | _, [] => true
  | lo, (k, b) :: rest => decide (lo ≤ k) && decide (k < 65536) && (b != initByte) && wfFrom (k + 1) rest

/-- Addresses strictly rising and below 65 536, and no byte equal to `initByte`. -/
def Memory.wf (m : Memory) : Bool := wfFrom 0 m

/-- `MemRead(addr, 1)` (20_memory.md R84). -/
def Memory.read (m : Memory) (a : Half) : Byte := lookupByte m a.toNat

/-- `MemWrite(addr, 1, v)` (20_memory.md R85). -/
def Memory.write (m : Memory) (a : Half) (v : Byte) : Memory := insertByte m a.toNat v

/-- `MemRead(addr, 2)`: little-endian, the second address wraps (20_memory.md R84, R100). -/
def Memory.read16 (m : Memory) (a : Half) : Half := (m.read (a + 1) ++ m.read a : BitVec 16)

/-- Bits 7:0 of a 16-bit value. -/
def lowByte (v : Half) : Byte := v.extractLsb' 0 8

/-- Bits 15:8 of a 16-bit value. -/
def highByte (v : Half) : Byte := v.extractLsb' 8 8

/-- `MemWrite(addr, 2, v)`: the lower address first (20_memory.md R85). -/
def Memory.write16 (m : Memory) (a : Half) (v : Half) : Memory :=
  (m.write a (lowByte v)).write (a + 1) (highByte v)

/-- Write bytes at ascending addresses. -/
def Memory.writeBytes (m : Memory) (a : Half) : List Byte → Memory
  | [] => m
  | b :: rest => Memory.writeBytes (m.write a b) (a + 1) rest

/-! ### Completion (40_arithmetic.md, opening section) -/

/-- The completion of every instruction but XOP and CMP: XOPP, CMPP and Z are cleared
(30_encoding.md R115, 10_state.md R36, R37). -/
def complete (s : State) : State := { s with xopp := false, cmpp := false, z := false }

/-- Run a meaning in the link mode in force. With CFG.W = 0b11 and no MAD profile no behaviour is defined
(10_state.md R33, 93_implementation_defined.md U3). DEDUCED, safe (notes/assumptions/12.md). -/
def inMode (s : State) (f : LinkMode → State) : Host.Outcome State Fault Refusal :=
  match s.linkMode with
  | none => .refused .reservedLinkMode
  | some m => .next (f m)

/-- The effect of NV_RULE at the end of an ALU instruction: none by default, since such an instruction has
written N and V, or left them, as its own rule says; under the conservative alternative both take any
value (93_implementation_defined.md U7). Which instructions are ALU instructions is DEDUCED, unsafe off
the default (notes/assumptions/2.md). -/
def State.applyNvRule (s : State) : State :=
  match s.par.nvRule with
  | .arithmetic => s
  | .anyAfterAlu => { s with n := Config.freeN s.draws, v := Config.freeV s.draws, draws := s.draws + 1 }

/-! ### Arithmetic, logic, bits (files 40 to 42) -/

/-- Write a sum or a difference: A, C, N and V (40_arithmetic.md R150). -/
def State.setArith (s : State) (m : LinkMode) (r : AluResult) : State :=
  { s with acc := putLow (width m) s.acc r.value, c := r.carry, n := r.negative, v := r.overflow }

/-- Write the result of a logic instruction: A only (41_logical.md R170). -/
def State.setLogic (s : State) (m : LinkMode) (v : Nat) : State := (s.setActive m v).applyNvRule

/-- Write the result of a bit test: C only (42_bit_manipulation.md R192). -/
def State.setCarry (s : State) (b : Bool) : State := State.applyNvRule { s with c := b }

/-- ADD with second operand `b` (40_arithmetic.md R151). -/
def opAdd (m : LinkMode) (b : Nat) (s : State) : State :=
  (s.setArith m (addResult (width m) (s.active m) b s.carryIn)).applyNvRule

/-- SUB with second operand `b` (40_arithmetic.md R152). -/
def opSub (m : LinkMode) (b : Nat) (s : State) : State :=
  (s.setArith m (subResult (width m) (s.active m) b s.borrowIn)).applyNvRule

/-- INC: the carry input is 0 (40_arithmetic.md R153). -/
def opInc (m : LinkMode) (s : State) : State :=
  (s.setArith m (addResult (width m) (s.active m) 1 0)).applyNvRule

/-- DEC: the borrow input is 0 (40_arithmetic.md R154). -/
def opDec (m : LinkMode) (s : State) : State :=
  (s.setArith m (subResult (width m) (s.active m) 1 0)).applyNvRule

/-- AND with second operand `b` (41_logical.md R170). -/
def opAnd (m : LinkMode) (b : Nat) (s : State) : State := s.setLogic m (s.active m &&& b)

/-- OR with second operand `b` (41_logical.md R172). -/
def opOr (m : LinkMode) (b : Nat) (s : State) : State := s.setLogic m (s.active m ||| b)

/-- XOR with second operand `b` (41_logical.md R173). -/
def opXor (m : LinkMode) (b : Nat) (s : State) : State := s.setLogic m (s.active m ^^^ b)

/-- INV: the complement of `Wb` bits (41_logical.md R171). -/
def opInv (m : LinkMode) (s : State) : State := s.setLogic m (2 ^ width m - 1 - s.active m)

/-- SHL: C is the bit expelled at the active width (42_bit_manipulation.md R190). -/
def opShl (m : LinkMode) (s : State) : State :=
  (s.setActive m (s.active m * 2)).setCarry (signBit (width m) (s.active m))

/-- SHR: C is bit 0, the vacated bit is 0 (42_bit_manipulation.md R191). -/
def opShr (m : LinkMode) (s : State) : State :=
  (s.setActive m (s.active m / 2)).setCarry (decide (s.active m % 2 = 1))

/-- BTST: C is the bit of the full ACC at index `idx` (42_bit_manipulation.md R192). -/
def opBtst (idx : Nibble) (s : State) : State := s.setCarry (s.acc.getLsbD idx.toNat)

/-- TST: C says whether `A & mask` is non-zero (42_bit_manipulation.md R193). -/
def opTst (m : LinkMode) (mask : Nat) (s : State) : State :=
  s.setCarry (decide (s.active m &&& mask ≠ 0))

/-! ### Control flow and structure (files 43, 44) -/

/-- A conditional branch relative to PC_next; not taken, the fetch position stays (43_control_flow.md
R210). -/
def opBranch {k : Nat} (cond : Bool) (imm : BitVec k) (s : State) : State :=
  if cond then s.jumpTo (s.pcNext + s.branchOffset imm) else s

/-- The condition of BEQz: Z after a CMP, else whether A is zero (43_control_flow.md R211). -/
def State.beqCond (s : State) (m : LinkMode) : Bool :=
  if s.cmpp then s.z else decide (s.active m = 0)

/-- CMP: the flags of `A - S`; sets CMPP and writes Z, and is exempt from their clearing
(44_structural.md R230). -/
def opCmp (m : LinkMode) (s : State) : State :=
  State.applyNvRule { s with
    c := (subResult (width m) (s.active m) (s.source m) 0).carry
    n := (subResult (width m) (s.active m) (s.source m) 0).negative
    v := (subResult (width m) (s.active m) (s.source m) 0).overflow
    z := decide (s.active m = s.source m)
    cmpp := true
    xopp := false }

/-- XOP: exempt from the clearing of XOPP (44_structural.md R245). -/
def opXop (s : State) : State := { s with xopp := true, cmpp := false, z := false }

/-- SS: exchange A with S (44_structural.md R240). -/
def opSwapSource (m : LinkMode) (s : State) : State :=
  { s with
    acc := putLow (width m) s.acc (s.source m)
    rs0 := putLow (width m) s.rs0 (s.active m) }

/-- The reserved opcodes: a no-op, or a refusal where the parameter RSV_BEHAVIOUR is `refuse`
(44_structural.md R247, 93_implementation_defined.md U1). `keep` says that the source itself calls the
encoding a NOP on this core. The default no-op is a DESIGN CHOICE, unsafe (notes/assumptions/11.md). -/
def opReserved (keep : Bool) (s : State) : Host.Outcome State Fault Refusal :=
  match s.linkMode with
  | none => .refused .reservedLinkMode
  | some _ =>
    if s.par.rsvBehaviour = .refuse ∧ keep = false then .refused .reservedOpcode
    else .next (complete s)

/-! ### XMEM (45_xmem.md) -/

/-- The value a load brings into A: two bytes at width 16, else one byte, of which UL keeps the low nibble
when it is written to A (45_xmem.md R261). -/
def loadValue (m : LinkMode) (a : Half) (s : State) : Nat :=
  if width m = 16 then (s.mem.read16 a).toNat else (s.mem.read a).toNat

/-- The memory after a store of A: two bytes, one byte, or (UL) the low nibble of one byte
(45_xmem.md R262). -/
def storeMem (m : LinkMode) (a : Half) (s : State) : Memory :=
  match m with
  | .ul => s.mem.write a (highNibble (s.mem.read a) ++ lowNibble (lowByte s.acc) : BitVec 8)
  | .lk8 => s.mem.write a (lowByte s.acc)
  | .lk16 => s.mem.write16 a s.acc
  | .spe => s.mem.write16 a s.acc

/-- The access of XMEM at address `a` (45_xmem.md R261, R262). -/
def xmemAccess (m : LinkMode) (op : MemOp) (a : Half) (s : State) : State :=
  match op with
  | .load => s.setActive m (loadValue m a s)
  | .store => { s with mem := storeMem m a s }

/-- The post-modified address (45_xmem.md R263); with AM = 0 DIR is ignored (R264). -/
def postAddr (m : LinkMode) (post : Bool) (dir : StrideDir) (a : Half) : Half :=
  if post then
    match dir with
    | .up => a + stride m
    | .down => a - stride m
  else a

/-- XMEM: the access at the selected register, then the post-modification (45_xmem.md R260). -/
def opXmem (m : LinkMode) (op : MemOp) (post : Bool) (dir : StrideDir) (ar : AddrReg) (s : State) : State :=
  (xmemAccess m op (s.addrReg ar) s).setAddrReg ar (postAddr m post dir (s.addrReg ar))

/-! ### MAD profile (48_mad_profile.md) -/

/-- MAD: ACC and C (48_mad_profile.md R322). -/
def opMad (sh : MadShift) (sat : Bool) (lane : Lane) (s : State) : State :=
  State.applyNvRule { s with
    acc := BitVec.ofInt 16 (madShifted s.par.madFn s.sign sat sh s.acc.toNat
      (madProduct s.sign (laneOfReg lane s.rs0) (laneOfReg lane s.rs1)))
    c := madCarry s.acc.toNat (madProduct s.sign (laneOfReg lane s.rs0) (laneOfReg lane s.rs1)) }

/-- RS0 is greater than ACC, in the signedness of CFG.SIGN (48_mad_profile.md R323). -/
def State.sourceGreater (s : State) : Bool :=
  decide (readAs s.sign 16 s.acc.toNat < readAs s.sign 16 s.rs0.toNat)

/-- RS0 is less than ACC, in the signedness of CFG.SIGN (48_mad_profile.md R324). -/
def State.sourceLess (s : State) : Bool :=
  decide (readAs s.sign 16 s.rs0.toNat < readAs s.sign 16 s.acc.toNat)

/-- ACC takes RS0 if the condition holds (MAX and MIN). -/
def opTakeSource (cond : Bool) (s : State) : State :=
  State.applyNvRule { s with acc := if cond then s.rs0 else s.acc }

/-! ### CSR access (46_csr_access.md) -/

/-- The value CSR3 reads as; DBGSTEP reads 0 without the Debug Profile (46_csr_access.md R282). -/
def State.intctrl (s : State) : Half :=
  0#3 ++ BitVec.ofBool (s.par.hasDbg && s.dbgStep) ++ BitVec.ofBool s.swP ++ BitVec.ofBool s.tP
    ++ BitVec.ofBool s.extP ++ BitVec.ofBool s.inIsr ++ BitVec.ofBool s.wdog ++ 0#4
    ++ BitVec.ofBool s.tIE ++ BitVec.ofBool s.extIE ++ BitVec.ofBool s.swIE

/-- The CSR read function (46_csr_access.md R282). CSR9 to CSR15 read 0: DEDUCED, unsafe
(notes/assumptions/13.md). -/
def csrRead (s : State) (idx : Nibble) : Half :=
  match idx.toNat with
  | 0 => (s.flagsByte ++ s.cfg : BitVec 16)
  | 1 => if s.par.hasTimer then s.timer else 0
  | 2 => if s.par.hasTimerCmp then s.timerCmp else 0
  | 3 => if s.par.hasInt then s.intctrl else 0
  | 4 => if s.par.hasInt then (0#8 ++ s.ia : BitVec 16) else 0
  | 5 => if s.par.hasGpr then s.gpr1 else 0
  | 6 => if s.par.hasGpr then s.gpr2 else 0
  | 7 => if s.par.hasGpr then s.gpr3 else 0
  | 8 => s.par.cpuid
  | _ => 0

/-- A write to INTCTRL: the enables are plain, WDOG and T_IE need the compare register, the pending bits
are write-one-to-clear, DBGSTEP is plain with the Debug Profile (10_state.md R49). -/
def writeIntctrl (s : State) (v : Half) : State :=
  { s with
    swIE := v.getLsbD 0
    extIE := v.getLsbD 1
    tIE := s.par.hasTimerCmp && v.getLsbD 2
    wdog := s.par.hasTimerCmp && v.getLsbD 7
    extP := s.extP && !v.getLsbD 9
    tP := s.tP && !v.getLsbD 10
    swP := s.swP && !v.getLsbD 11
    dbgStep := if s.par.hasDbg then v.getLsbD 12 else s.dbgStep }

/-- The CSR write function (46_csr_access.md R283). -/
def csrWrite (s : State) (idx : Nibble) (v : Half) : State :=
  match idx.toNat with
  | 0 => { s with cfg := lowByte v }
  | 1 => if s.par.hasTimer then { s with timer := v } else s
  | 2 => if s.par.hasTimerCmp then { s with timerCmp := v } else s
  | 3 => if s.par.hasInt then writeIntctrl s v else s
  | 4 => if s.par.hasInt then { s with ia := lowByte v } else s
  | 5 => if s.par.hasGpr then { s with gpr1 := v } else s
  | 6 => if s.par.hasGpr then { s with gpr2 := v } else s
  | 7 => if s.par.hasGpr then { s with gpr3 := v } else s
  | _ => s

/-! ### Taking an interrupt and returning from one (60_exceptions.md R342 to R353, R360) -/

/-- An enabled source is pending, whatever CFG.IE is (60_exceptions.md R342, 47_interrupt_profile.md R304).
-/
def State.enabledPending (s : State) : Bool :=
  (s.swIE && s.swP) || (s.extIE && s.extP) || (s.tIE && !s.wdog && s.tP)

/-- `IntReq` (60_exceptions.md R342). -/
def State.intReq (s : State) : Bool := s.ie && s.enabledPending

/-- An interrupt is taken at this boundary (60_exceptions.md R347, R348). -/
def State.takesInterrupt (s : State) : Bool :=
  s.par.hasInt && s.intReq && !s.nib && !(s.par.xopAtomic && s.xopp) && !(s.par.cmpAtomic && s.cmpp)

/-- The base of an interrupt page (60_exceptions.md R351). -/
def pageBase (page : Byte) : Half := (page ++ 0#8 : BitVec 16)

/-- The frame's sixteen bytes in ascending address order (60_exceptions.md R350, R351). -/
def frameBytes (s : State) : List Byte :=
  [lowByte s.pc, highByte s.pc, s.cfg, s.flagsByte, lowByte s.acc, highByte s.acc,
   lowByte s.rs0, highByte s.rs0, lowByte s.rs1, highByte s.rs1, lowByte s.ra0, highByte s.ra0,
   lowByte s.ra1, highByte s.ra1, s.ia, s.iar]

/-- CFG with IE cleared and every other bit kept (60_exceptions.md R350). -/
def clearIE (cfg : Byte) : Byte := cfg &&& 0xEF#8

/-- `TrapEntry()` (60_exceptions.md R350): the frame goes to the IA page, IAR takes IA, IE, XOPP, CMPP, Z
and DBGSTEP are cleared, IN_ISR is set, and control goes to IA<<8 + 0x10. -/
def trapEntry (s : State) : State :=
  { s with
    mem := s.mem.writeBytes (pageBase s.ia) (frameBytes s)
    iar := s.ia
    cfg := clearIE s.cfg
    xopp := false
    cmpp := false
    z := false
    inIsr := true
    dbgStep := false
    pc := pageBase s.ia + 0x10
    nib := false }

/-- The loads of RETI from the IAR page, before its completion clears Z (47_interrupt_profile.md R300). -/
def trapReturn (s : State) : State :=
  { s with
    pc := s.mem.read16 (pageBase s.iar)
    nib := false
    cfg := s.mem.read (pageBase s.iar + 2)
    c := (s.mem.read (pageBase s.iar + 3)).getLsbD 0
    z := (s.mem.read (pageBase s.iar + 3)).getLsbD 1
    n := (s.mem.read (pageBase s.iar + 3)).getLsbD 2
    v := (s.mem.read (pageBase s.iar + 3)).getLsbD 3
    ra1 := s.mem.read16 (pageBase s.iar + 12)
    ia := s.mem.read (pageBase s.iar + 14)
    iar := s.mem.read (pageBase s.iar + 15)
    inIsr := false }

/-! ### Sleep (47_interrupt_profile.md R303, R304) -/

/-- The core is asleep and no wake condition holds (60_exceptions.md R348). -/
def State.staysAsleep (s : State) : Bool := s.par.hasInt && s.sleep && !s.enabledPending

/-- The core goes on from a boundary: SLEEP is cleared (60_exceptions.md R348). -/
def State.awaken (s : State) : State := if s.par.hasInt then { s with sleep := false } else s

/-! ### Reset, timer, watchdog, single step -/

/-- A reset of the core: every piece of the spec's state takes its reset value, memory is kept
(60_exceptions.md R372, 70_reset_and_hazards.md R390). The parameters, the environment's events and the
count of draws are not state of the core. -/
def resetCore (s : State) : State :=
  { State.powerOn s.par with mem := s.mem, env := s.env, draws := s.draws }

/-- An increment now makes TIMER go from different to equal to TIMERCMP (60_exceptions.md R371). -/
def State.matchNext (s : State) : Bool :=
  s.par.hasTimerCmp && decide (s.timer ≠ s.timerCmp) && decide (s.timer + 1 = s.timerCmp)

/-- An increment now makes the watchdog reset the core (60_exceptions.md R371, R372). -/
def State.watchdogNext (s : State) : Bool := s.matchNext && s.wdog

/-- One increment of TIMER with its match check (60_exceptions.md R370, R371). Without the Interrupt Profile
there is no T_P to set (R345). DEDUCED, unsafe (notes/assumptions/20.md). -/
def tickOnce (s : State) : State :=
  if s.watchdogNext then resetCore s
  else { s with timer := s.timer + 1, tP := s.tP || (s.par.hasInt && s.matchNext) }

/-- Several increments, each with its match check; a watchdog reset ends them. DEDUCED,
unsafe (notes/assumptions/9.md). -/
def tickMany : Nat → State → State
  | 0, s => s
  | k + 1, s => if s.watchdogNext then tickOnce s else tickMany k (tickOnce s)

/-- The increments of one step in `cycle` mode: a free positive number (60_exceptions.md R370,
93_implementation_defined.md U6). -/
def tickCycle (s : State) : State :=
  tickMany (Config.cycleTicks s.draws + 1) { s with draws := s.draws + 1 }

/-- `TimerTick()` after an instruction (60_exceptions.md R370). -/
def timerTick (s : State) : State :=
  if s.par.hasTimer then
    match s.par.timerMode with
    | .retired => tickOnce s
    | .cycle => tickCycle s
  else s

/-- The timer in a step that retires no instruction (trap entry, sleep): it counts in `cycle` mode only
(60_exceptions.md R370). DEDUCED, unsafe in that mode (notes/assumptions/8.md). -/
def idleTick (s : State) : State :=
  if s.par.hasTimer ∧ s.par.timerMode = .cycle then tickCycle s else s

/-- Single step is armed: sampled before the fetch (60_exceptions.md R348, R375). -/
def State.armed (s : State) : Bool := s.par.hasDbg && s.dbgStep && s.ie && !s.inIsr

/-- What follows an instruction's completion: the timer, then the single-step request (60_exceptions.md R348,
R375). The order matters only where the timer resets the core: where the parameter says so, the reset clears
the request too (70_reset_and_hazards.md R390, R392). DESIGN CHOICE that both are modelled, safe
(notes/assumptions/10.md). -/
def retire (armed : Bool) (s : State) : State :=
  match s.par.stepAtReset with
  | .follows => if armed then { timerTick s with swP := true } else timerTick s
  | .dropped => timerTick (if armed then { s with swP := true } else s)

/-! ### Fetch (30_encoding.md R111, R119) -/

/-- The first or the second nibble of a byte in fetch order (30_encoding.md R111, 20_memory.md R87). -/
def nibbleOfByte (o : NibbleOrder) (second : Bool) (b : Byte) : Nibble :=
  match o, second with
  | .lowFirst, false => lowNibble b
  | .lowFirst, true => highNibble b
  | .highFirst, false => highNibble b
  | .highFirst, true => lowNibble b

/-- The result of `FetchNibble()` (30_encoding.md R111). -/
def State.nextNibble (s : State) : Nibble := nibbleOfByte s.par.nibbleOrder s.nib (s.mem.read s.pc)

/-- The fetch position after one `FetchNibble()` (30_encoding.md R111). -/
def State.advance (s : State) : State :=
  if s.nib then { s with pc := s.pc + 1, nib := false } else { s with nib := true }

/-- The fetch position after `n` nibbles. -/
def State.advanceBy : Nat → State → State
  | 0, s => s
  | n + 1, s => State.advanceBy n s.advance

/-- The next `n` nibbles of the instruction stream. -/
def State.peek : Nat → State → List Nibble
  | 0, _ => []
  | n + 1, s => s.nextNibble :: State.peek n s.advance

/-- The instruction at the fetch position in link mode `m` (30_encoding.md R119). No instruction is longer
than three nibbles, and reading a nibble has no side effect, so the nibbles after it may be looked at. -/
def State.currentInstr (s : State) (m : LinkMode) : Instr :=
  decodeNibbles (s.decodeCtx m) s.nextNibble s.advance.nextNibble s.advance.advance.nextNibble

/-! ### The step (60_exceptions.md R348) -/

/-- The environment's next event reaches the core: the external line sets EXT_P (10_state.md R56). -/
def State.takeEvent (s : State) : State :=
  match s.env with
  | [] => s
  | .extLine :: rest => { s with env := rest, extP := s.extP || s.par.hasInt }
  | .quiet :: rest => { s with env := rest }
  | .reset :: rest => { s with env := rest }

/-- The environment resets the core before this step (70_reset_and_hazards.md R390). -/
def State.envReset (s : State) : Bool :=
  match s.env with
  | .reset :: _ => true
  | _ => false

/-- Fetch, execute and retire the instruction at the fetch position (60_exceptions.md R348). `ex` gets the
state past the instruction: DEDUCED, safe (notes/assumptions/21.md). -/
def stepInstr (ex : Instr → State → Host.Outcome State Fault Refusal) (m : LinkMode) (s : State) :
    Host.Outcome State Fault Refusal :=
  match ex (s.currentInstr m) (s.advanceBy (s.currentInstr m).nibbles) with
  | .next t => .next (retire s.armed t)
  | .fault r => .fault r
  | .refused r => .refused r

/-- The step after the environment has acted: sleep, interrupt, or one instruction (60_exceptions.md R348).
-/
def stepCore (ex : Instr → State → Host.Outcome State Fault Refusal) (s : State) :
    Host.Outcome State Fault Refusal :=
  match s.linkMode with
  | none => .refused .reservedLinkMode
  | some m =>
    if s.staysAsleep then .next (idleTick s)
    else if s.awaken.takesInterrupt then .next (idleTick (trapEntry s.awaken))
    else stepInstr ex m s.awaken

/-- `Step()` (60_exceptions.md R348), with the dispatch `ex` as `Execute`. -/
def stepWith (ex : Instr → State → Host.Outcome State Fault Refusal) (s : State) :
    Host.Outcome State Fault Refusal :=
  if s.envReset then .next (resetCore s.takeEvent) else stepCore ex s.takeEvent

/-! ### Placing an instruction in the stream -/

/-- A byte with its first or second nibble in fetch order replaced. -/
def setNibbleOfByte (o : NibbleOrder) (second : Bool) (b : Byte) (x : Nibble) : Byte :=
  match o, second with
  | .lowFirst, false => byteOfNibbles .lowFirst x (highNibble b)
  | .lowFirst, true => byteOfNibbles .lowFirst (lowNibble b) x
  | .highFirst, false => byteOfNibbles .highFirst x (lowNibble b)
  | .highFirst, true => byteOfNibbles .highFirst (highNibble b) x

/-- Store one nibble at the fetch position and move past it. -/
def State.pokeNibble (s : State) (x : Nibble) : State :=
  let b := setNibbleOfByte s.par.nibbleOrder s.nib (s.mem.read s.pc) x
  State.advance { s with mem := s.mem.write s.pc b }

/-- The memory of `s` with nibbles stored from its fetch position on. -/
def pokeNibbles : List Nibble → State → Memory
  | [], s => s.mem
  | x :: rest, s => pokeNibbles rest (s.pokeNibble x)

end Sys2Proof.Machine
end

