-- ==== Sys2Proof/Machine/Arithmetic.lean ====
section
/-! DEFINITION. ADD, SUB, INC and DEC (40_arithmetic.md). -/

namespace Sys2Proof.Machine

/-- ADD with RS0 (40_arithmetic.md R151). -/
def execAdd (s : State) : Host.Outcome State Fault Refusal :=
  inMode s fun m => complete (opAdd m (s.source m) s)

/-- ADDI with an immediate of one nibble (40_arithmetic.md R151). -/
def execAddi4 (imm : Nibble) (s : State) : Host.Outcome State Fault Refusal :=
  inMode s fun m => complete (opAdd m (immOperand m imm) s)

/-- ADDI with an immediate of two nibbles (40_arithmetic.md R151). -/
def execAddi8 (imm : Byte) (s : State) : Host.Outcome State Fault Refusal :=
  inMode s fun m => complete (opAdd m (immOperand m imm) s)

/-- SUB with RS0 (40_arithmetic.md R152). -/
def execSub (s : State) : Host.Outcome State Fault Refusal :=
  inMode s fun m => complete (opSub m (s.source m) s)

/-- SUBI with an immediate of one nibble (40_arithmetic.md R152). -/
def execSubi4 (imm : Nibble) (s : State) : Host.Outcome State Fault Refusal :=
  inMode s fun m => complete (opSub m (immOperand m imm) s)

/-- SUBI with an immediate of two nibbles (40_arithmetic.md R152). -/
def execSubi8 (imm : Byte) (s : State) : Host.Outcome State Fault Refusal :=
  inMode s fun m => complete (opSub m (immOperand m imm) s)

/-- INC (40_arithmetic.md R153). -/
def execInc (s : State) : Host.Outcome State Fault Refusal :=
  inMode s fun m => complete (opInc m s)

/-- DEC (40_arithmetic.md R154). -/
def execDec (s : State) : Host.Outcome State Fault Refusal :=
  inMode s fun m => complete (opDec m s)

end Sys2Proof.Machine
end

