-- ==== Sys2Proof/Machine/BitManip.lean ====
section
/-! DEFINITION. SHL, SHR, BTST and TST (42_bit_manipulation.md). -/

namespace Sys2Proof.Machine

/-- SHL (42_bit_manipulation.md R190). -/
def execShl (s : State) : Host.Outcome State Fault Refusal :=
  inMode s fun m => complete (opShl m s)

/-- SHR (42_bit_manipulation.md R191). -/
def execShr (s : State) : Host.Outcome State Fault Refusal :=
  inMode s fun m => complete (opShr m s)

/-- BTST: the index is RS0[3:0] (42_bit_manipulation.md R192). -/
def execBtst (s : State) : Host.Outcome State Fault Refusal :=
  inMode s fun _ => complete (opBtst (lowNibble (lowByte s.rs0)) s)

/-- BTSTI with an immediate of one nibble (42_bit_manipulation.md R192). -/
def execBtsti4 (imm : Nibble) (s : State) : Host.Outcome State Fault Refusal :=
  inMode s fun _ => complete (opBtst imm s)

/-- BTSTI with an immediate of two nibbles, of which imm8[3:0] is used (42_bit_manipulation.md R192). -/
def execBtsti8 (imm : Byte) (s : State) : Host.Outcome State Fault Refusal :=
  inMode s fun _ => complete (opBtst (lowNibble imm) s)

/-- TST: the mask is S (42_bit_manipulation.md R193). -/
def execTst (s : State) : Host.Outcome State Fault Refusal :=
  inMode s fun m => complete (opTst m (s.source m) s)

/-- TSTI with an immediate of one nibble (42_bit_manipulation.md R193). -/
def execTsti4 (imm : Nibble) (s : State) : Host.Outcome State Fault Refusal :=
  inMode s fun m => complete (opTst m (immOperand m imm) s)

/-- TSTI with an immediate of two nibbles (42_bit_manipulation.md R193). -/
def execTsti8 (imm : Byte) (s : State) : Host.Outcome State Fault Refusal :=
  inMode s fun m => complete (opTst m (immOperand m imm) s)

end Sys2Proof.Machine
end

