-- ==== Sys2Proof/Machine/ControlFlow.lean ====
section
/-! DEFINITION. BEQz, BC, JAL and JMP (43_control_flow.md). The state a meaning gets has its fetch position after the
instruction, so that `pcNext` is PC_next (30_encoding.md R113). -/

namespace Sys2Proof.Machine

/-- BEQz with imm4 (43_control_flow.md R210, R211). -/
def execBeqz4 (imm : Nibble) (s : State) : Host.Outcome State Fault Refusal :=
  inMode s fun m => complete (opBranch (s.beqCond m) imm s)

/-- BEQz with imm8 (43_control_flow.md R210, R211). -/
def execBeqz8 (imm : Byte) (s : State) : Host.Outcome State Fault Refusal :=
  inMode s fun m => complete (opBranch (s.beqCond m) imm s)

/-- BC with imm4 (43_control_flow.md R210, R212). -/
def execBc4 (imm : Nibble) (s : State) : Host.Outcome State Fault Refusal :=
  inMode s fun _ => complete (opBranch s.c imm s)

/-- BC with imm8 (43_control_flow.md R210, R212). -/
def execBc8 (imm : Byte) (s : State) : Host.Outcome State Fault Refusal :=
  inMode s fun _ => complete (opBranch s.c imm s)

/-- JAL: RA1 takes PC_next, control goes to RA0 (43_control_flow.md R213). -/
def execJal (s : State) : Host.Outcome State Fault Refusal :=
  inMode s fun _ => complete { s.jumpTo s.ra0 with ra1 := s.pcNext }

/-- JMP (43_control_flow.md R214). -/
def execJmp (s : State) : Host.Outcome State Fault Refusal :=
  inMode s fun _ => complete (s.jumpTo s.ra0)

end Sys2Proof.Machine
end

