-- ==== Sys2Proof/Machine/CsrAccess.lean ====
section
/-! DEFINITION. CSRLD and CSRST (46_csr_access.md). -/

namespace Sys2Proof.Machine

/-- CSRLD: the flags are read before the completion clears Z (46_csr_access.md R280). -/
def execCsrld (idx : Nibble) (s : State) : Host.Outcome State Fault Refusal :=
  inMode s fun _ => complete { s with acc := csrRead s idx }

/-- CSRST (46_csr_access.md R281). -/
def execCsrst (idx : Nibble) (s : State) : Host.Outcome State Fault Refusal :=
  inMode s fun _ => complete (csrWrite s idx s.acc)

end Sys2Proof.Machine
end

