-- ==== Sys2Proof/Machine/Interrupt.lean ====
section
/-! DEFINITION. RETI, SWI and WFI (47_interrupt_profile.md). -/

namespace Sys2Proof.Machine

/-- RETI: not conditional on IN_ISR; the completion clears the Z just loaded (47_interrupt_profile.md R300). -/
def execReti (s : State) : Host.Outcome State Fault Refusal :=
  inMode s fun _ => complete (trapReturn s)

/-- SWI: sets SW_P; the interrupt is taken by the next boundary check that accepts it
(47_interrupt_profile.md R302). -/
def execSwi (s : State) : Host.Outcome State Fault Refusal :=
  inMode s fun _ => complete { s with swP := true }

/-- WFI: sets SLEEP; the next step sleeps or wakes (47_interrupt_profile.md R303). -/
def execWfi (s : State) : Host.Outcome State Fault Refusal :=
  inMode s fun _ => complete { s with sleep := true }

end Sys2Proof.Machine
end

