-- ==== Sys2Proof/Machine/Logical.lean ====
section
/-! DEFINITION. AND, OR, XOR and INV (41_logical.md). -/

namespace Sys2Proof.Machine

/-- AND with RS0 (41_logical.md R170). -/
def execAnd (s : State) : Host.Outcome State Fault Refusal :=
  inMode s fun m => complete (opAnd m (s.source m) s)

/-- ANDI with an immediate of one nibble (41_logical.md R170). -/
def execAndi4 (imm : Nibble) (s : State) : Host.Outcome State Fault Refusal :=
  inMode s fun m => complete (opAnd m (immOperand m imm) s)

/-- ANDI with an immediate of two nibbles (41_logical.md R170). -/
def execAndi8 (imm : Byte) (s : State) : Host.Outcome State Fault Refusal :=
  inMode s fun m => complete (opAnd m (immOperand m imm) s)

/-- OR with RS0 (41_logical.md R172). -/
def execOr (s : State) : Host.Outcome State Fault Refusal :=
  inMode s fun m => complete (opOr m (s.source m) s)

/-- ORI with an immediate of one nibble (41_logical.md R172). -/
def execOri4 (imm : Nibble) (s : State) : Host.Outcome State Fault Refusal :=
  inMode s fun m => complete (opOr m (immOperand m imm) s)

/-- ORI with an immediate of two nibbles (41_logical.md R172). -/
def execOri8 (imm : Byte) (s : State) : Host.Outcome State Fault Refusal :=
  inMode s fun m => complete (opOr m (immOperand m imm) s)

/-- XOR with RS0 (41_logical.md R173). -/
def execXor (s : State) : Host.Outcome State Fault Refusal :=
  inMode s fun m => complete (opXor m (s.source m) s)

/-- XORI with an immediate of one nibble (41_logical.md R173). -/
def execXori4 (imm : Nibble) (s : State) : Host.Outcome State Fault Refusal :=
  inMode s fun m => complete (opXor m (immOperand m imm) s)

/-- XORI with an immediate of two nibbles (41_logical.md R173). -/
def execXori8 (imm : Byte) (s : State) : Host.Outcome State Fault Refusal :=
  inMode s fun m => complete (opXor m (immOperand m imm) s)

/-- INV (41_logical.md R171). -/
def execInv (s : State) : Host.Outcome State Fault Refusal :=
  inMode s fun m => complete (opInv m s)

end Sys2Proof.Machine
end

