-- ==== Sys2Proof/Machine/Mad.lean ====
section
/-! DEFINITION. MAD, MAX and MIN (48_mad_profile.md). -/

namespace Sys2Proof.Machine

/-- MAD (48_mad_profile.md R322). -/
def execMad (shift : MadShift) (sat : Bool) (lane : Lane) (s : State) :
    Host.Outcome State Fault Refusal :=
  inMode s fun _ => complete (opMad shift sat lane s)

/-- MAX (48_mad_profile.md R323). -/
def execMax (s : State) : Host.Outcome State Fault Refusal :=
  inMode s fun _ => complete (opTakeSource s.sourceGreater s)

/-- MIN (48_mad_profile.md R324). -/
def execMin (s : State) : Host.Outcome State Fault Refusal :=
  inMode s fun _ => complete (opTakeSource s.sourceLess s)

end Sys2Proof.Machine
end

