-- ==== Sys2Proof/Machine/Structural.lean ====
section
/-! DEFINITION. CMP, CFG, the rotations and exchanges, LDi, CLC, XOP, NOP and the reserved opcodes
(44_structural.md). -/

namespace Sys2Proof.Machine

/-- CMP (44_structural.md R230). -/
def execCmp (s : State) : Host.Outcome State Fault Refusal :=
  inMode s fun m => opCmp m s

/-- CFG: all eight bits; the new value governs the next instruction (44_structural.md R231). -/
def execCfg (imm : Byte) (s : State) : Host.Outcome State Fault Refusal :=
  inMode s fun _ => complete { s with cfg := imm }

/-- RACC (44_structural.md R234). -/
def execRacc (s : State) : Host.Outcome State Fault Refusal :=
  inMode s fun m => complete { s with acc := rotate16 s.par.raccDir (width m) s.acc }

/-- RRS (44_structural.md R235). -/
def execRrs (s : State) : Host.Outcome State Fault Refusal :=
  inMode s fun m => complete { s with rs0 := rotate16 s.par.raccDir (width m) s.rs0 }

/-- RSS (44_structural.md R237). -/
def execRss (s : State) : Host.Outcome State Fault Refusal :=
  inMode s fun _ => complete { s with rs0 := s.rs1, rs1 := s.rs0 }

/-- RSA (44_structural.md R238). -/
def execRsa (s : State) : Host.Outcome State Fault Refusal :=
  inMode s fun _ => complete { s with ra0 := s.ra1, ra1 := s.ra0 }

/-- SS (44_structural.md R240). -/
def execSs (s : State) : Host.Outcome State Fault Refusal :=
  inMode s fun m => complete (opSwapSource m s)

/-- SA: 16 bits in every link mode (44_structural.md R241). -/
def execSa (s : State) : Host.Outcome State Fault Refusal :=
  inMode s fun _ => complete { s with acc := s.ra0, ra0 := s.acc }

/-- LDi with an immediate of one nibble (44_structural.md R243). -/
def execLdi4 (imm : Nibble) (s : State) : Host.Outcome State Fault Refusal :=
  inMode s fun m => complete (s.setActive m (immOperand m imm))

/-- LDi with an immediate of two nibbles (44_structural.md R243). -/
def execLdi8 (imm : Byte) (s : State) : Host.Outcome State Fault Refusal :=
  inMode s fun m => complete (s.setActive m (immOperand m imm))

/-- CLC (44_structural.md R244). -/
def execClc (s : State) : Host.Outcome State Fault Refusal :=
  inMode s fun _ => complete { s with c := false }

/-- XOP (44_structural.md R245). -/
def execXop (s : State) : Host.Outcome State Fault Refusal :=
  inMode s fun _ => opXop s

/-- NOP (44_structural.md R246). -/
def execNop (s : State) : Host.Outcome State Fault Refusal :=
  inMode s fun _ => complete s

/-- Opcode 0110 in a wide mode without CSR access: a no-op (44_structural.md R248). -/
def execNop0110 (s : State) : Host.Outcome State Fault Refusal :=
  inMode s fun _ => complete s

/-- Extended 0110 in a wide mode without CSR access: a no-op (44_structural.md R248). -/
def execNop0110x (s : State) : Host.Outcome State Fault Refusal :=
  inMode s fun _ => complete s

/-- Extended 0100 without CLC: reserved (44_structural.md R247). -/
def execRsv0100 (s : State) : Host.Outcome State Fault Refusal :=
  opReserved false s

/-- Extended 1100 without a profile: reserved; with the MAD profile the source calls its opcodes NOP
outside SPE (44_structural.md R247, 48_mad_profile.md R320). -/
def execRsv1100 (s : State) : Host.Outcome State Fault Refusal :=
  opReserved s.par.hasMad s

/-- Extended 1000 without a profile: reserved, as Extended 1100 (44_structural.md R247). -/
def execRsv1000 (s : State) : Host.Outcome State Fault Refusal :=
  opReserved s.par.hasMad s

/-- Extended 0000 without a profile: reserved, as Extended 1100 (44_structural.md R247). -/
def execRsv0000 (s : State) : Host.Outcome State Fault Refusal :=
  opReserved s.par.hasMad s

end Sys2Proof.Machine
end

