-- ==== Sys2Proof/Machine/Xmem.lean ====
section
/-! DEFINITION. XMEM (45_xmem.md). -/

namespace Sys2Proof.Machine

/-- XMEM, all sixteen functions (45_xmem.md R260 to R265). -/
def execXmem (op : MemOp) (post : Bool) (dir : StrideDir) (ar : AddrReg) (s : State) :
    Host.Outcome State Fault Refusal :=
  inMode s fun m => complete (opXmem m op post dir ar s)

end Sys2Proof.Machine
end

