-- ==== Sys2Proof/Machine/Dispatch.lean ====
section
/-! DEFINITION. The dispatch: one arm for each instruction, one direct call of its meaning. The state a
meaning gets has its fetch position after the instruction (60_exceptions.md R348). -/

namespace Sys2Proof.Machine

def exec (i : Instr) (s : State) : Host.Outcome State Fault Refusal :=
  match i with
  | .add => Sys2Proof.Machine.execAdd s
  | .addi4 imm => Sys2Proof.Machine.execAddi4 imm s
  | .addi8 imm => Sys2Proof.Machine.execAddi8 imm s
  | .sub => Sys2Proof.Machine.execSub s
  | .subi4 imm => Sys2Proof.Machine.execSubi4 imm s
  | .subi8 imm => Sys2Proof.Machine.execSubi8 imm s
  | .inc => Sys2Proof.Machine.execInc s
  | .dec => Sys2Proof.Machine.execDec s
  | .and_ => Sys2Proof.Machine.execAnd s
  | .andi4 imm => Sys2Proof.Machine.execAndi4 imm s
  | .andi8 imm => Sys2Proof.Machine.execAndi8 imm s
  | .inv => Sys2Proof.Machine.execInv s
  | .or_ => Sys2Proof.Machine.execOr s
  | .ori4 imm => Sys2Proof.Machine.execOri4 imm s
  | .ori8 imm => Sys2Proof.Machine.execOri8 imm s
  | .xor_ => Sys2Proof.Machine.execXor s
  | .xori4 imm => Sys2Proof.Machine.execXori4 imm s
  | .xori8 imm => Sys2Proof.Machine.execXori8 imm s
  | .shl => Sys2Proof.Machine.execShl s
  | .shr => Sys2Proof.Machine.execShr s
  | .btst => Sys2Proof.Machine.execBtst s
  | .btsti4 imm => Sys2Proof.Machine.execBtsti4 imm s
  | .btsti8 imm => Sys2Proof.Machine.execBtsti8 imm s
  | .tst => Sys2Proof.Machine.execTst s
  | .tsti4 imm => Sys2Proof.Machine.execTsti4 imm s
  | .tsti8 imm => Sys2Proof.Machine.execTsti8 imm s
  | .beqz4 imm => Sys2Proof.Machine.execBeqz4 imm s
  | .beqz8 imm => Sys2Proof.Machine.execBeqz8 imm s
  | .bc4 imm => Sys2Proof.Machine.execBc4 imm s
  | .bc8 imm => Sys2Proof.Machine.execBc8 imm s
  | .jal => Sys2Proof.Machine.execJal s
  | .jmp => Sys2Proof.Machine.execJmp s
  | .cmp => Sys2Proof.Machine.execCmp s
  | .cfg imm => Sys2Proof.Machine.execCfg imm s
  | .racc => Sys2Proof.Machine.execRacc s
  | .rrs => Sys2Proof.Machine.execRrs s
  | .csrld idx => Sys2Proof.Machine.execCsrld idx s
  | .csrst idx => Sys2Proof.Machine.execCsrst idx s
  | .nop0110 => Sys2Proof.Machine.execNop0110 s
  | .nop0110x => Sys2Proof.Machine.execNop0110x s
  | .rss => Sys2Proof.Machine.execRss s
  | .rsa => Sys2Proof.Machine.execRsa s
  | .ss => Sys2Proof.Machine.execSs s
  | .sa => Sys2Proof.Machine.execSa s
  | .ldi4 imm => Sys2Proof.Machine.execLdi4 imm s
  | .ldi8 imm => Sys2Proof.Machine.execLdi8 imm s
  | .clc => Sys2Proof.Machine.execClc s
  | .rsv0100 => Sys2Proof.Machine.execRsv0100 s
  | .xmem op post dir ar => Sys2Proof.Machine.execXmem op post dir ar s
  | .xop => Sys2Proof.Machine.execXop s
  | .nop => Sys2Proof.Machine.execNop s
  | .reti => Sys2Proof.Machine.execReti s
  | .swi => Sys2Proof.Machine.execSwi s
  | .wfi => Sys2Proof.Machine.execWfi s
  | .mad shift sat lane => Sys2Proof.Machine.execMad shift sat lane s
  | .max_ => Sys2Proof.Machine.execMax s
  | .min_ => Sys2Proof.Machine.execMin s
  | .rsv1100 => Sys2Proof.Machine.execRsv1100 s
  | .rsv1000 => Sys2Proof.Machine.execRsv1000 s
  | .rsv0000 => Sys2Proof.Machine.execRsv0000 s

end Sys2Proof.Machine
end

