-- ==== Sys2Proof/Machine/Step.lean ====
section
/-! DEFINITION. One step of the machine, and the placing of one instruction where the next step fetches. -/

namespace Sys2Proof.Machine

/-- `Step()` of 60_exceptions.md R348; its text is `stepWith` in Machine/Ops.lean. -/
def step (s : State) : Host.Outcome State Fault Refusal := stepWith exec s

/-- `s` with the instruction of a table word stored at its fetch position, and XOPP as the word's column
needs it. It stands for the host's loading of a program (notes/assumptions/17.md). -/
def State.withFetchWord (s : State) (nbits w : Nat) : State :=
  { s with
    mem := pokeNibbles (tableForm nbits w).2 s
    xopp := (tableForm nbits w).1 }

end Sys2Proof.Machine
end

