-- ==== Sys2Proof/Safety.lean ====
section
/-! DEFINITION. What holds of a machine between steps: the invariant the statements are about, and the
terms they use for what stays the same. -/

namespace Sys2Proof.Machine

/-- The memory is in its canonical form. -/
abbrev State.MemOk (s : State) : Prop := s.mem.wf = true

/-- Z is 1 only right after a CMP, and no XOP is pending then (10_state.md R36, R37, R40). -/
abbrev State.CompareOk (s : State) : Prop :=
  (s.z = true → s.cmpp = true) ∧ (s.cmpp = true → s.xopp = false)

/-- A sleeping core has no pending XOP and no pending compare (47_interrupt_profile.md R303). -/
abbrev State.SleepOk (s : State) : Prop := s.sleep = true → s.xopp = false ∧ s.cmpp = false

/-- The parameters obey their dependencies (00_scope.md R9). -/
abbrev State.ParOk (s : State) : Prop := s.par.valid = true

/-- Without the Interrupt Profile, IA, IAR, INTCTRL and SLEEP do not exist: they stay as reset left them
(60_exceptions.md R345). -/
abbrev State.IntOk (s : State) : Prop :=
  s.par.hasInt = false →
    s.ia = 0 ∧ s.iar = 0 ∧ s.sleep = false ∧ s.swIE = false ∧ s.extIE = false ∧ s.tIE = false ∧
    s.wdog = false ∧ s.inIsr = false ∧ s.extP = false ∧ s.tP = false ∧ s.swP = false ∧ s.dbgStep = false

/-- Without the compare register, T_IE and WDOG stay 0, no match is ever pending, and TIMERCMP keeps its
reset value (10_state.md R47, R49). -/
abbrev State.CompareRegOk (s : State) : Prop :=
  s.par.hasTimerCmp = false → s.tIE = false ∧ s.wdog = false ∧ s.tP = false ∧ s.timerCmp = 0

/-- Without the timer, TIMER keeps its reset value (10_state.md R46). -/
abbrev State.TimerOk (s : State) : Prop := s.par.hasTimer = false → s.timer = 0

/-- Without the general-purpose CSRs, they keep their reset values (10_state.md R51). -/
abbrev State.GprOk (s : State) : Prop :=
  s.par.hasGpr = false → s.gpr1 = 0 ∧ s.gpr2 = 0 ∧ s.gpr3 = 0

/-- Without the Debug Profile, DBGSTEP stays 0 (10_state.md R48). -/
abbrev State.DebugOk (s : State) : Prop := s.par.hasDbg = false → s.dbgStep = false

/-- What every step keeps. -/
abbrev State.Inv (s : State) : Prop :=
  s.MemOk ∧ s.CompareOk ∧ s.SleepOk ∧ s.ParOk ∧ s.IntOk ∧ s.CompareRegOk ∧ s.TimerOk ∧ s.GprOk ∧ s.DebugOk

/-- The ALU instructions, those whose N and V are open under the alternative of NV_RULE: arithmetic, logic,
shifts, bit tests, CMP and the MAD profile (93_implementation_defined.md U7). DEDUCED, unsafe off the
default (notes/assumptions/2.md). -/
def isAlu (i : Instr) : Bool :=
  match i with
  | .add | .addi4 _ | .addi8 _ | .sub | .subi4 _ | .subi8 _ | .inc | .dec => true
  | .and_ | .andi4 _ | .andi8 _ | .or_ | .ori4 _ | .ori8 _ | .xor_ | .xori4 _ | .xori8 _ | .inv => true
  | .shl | .shr | .btst | .btsti4 _ | .btsti8 _ | .tst | .tsti4 _ | .tsti8 _ => true
  | .cmp | .mad _ _ _ | .max_ | .min_ => true
  | .beqz4 _ | .beqz8 _ | .bc4 _ | .bc8 _ | .jal | .jmp | .cfg _ | .racc | .rrs | .csrld _ | .csrst _ => false
  | .nop0110 | .nop0110x | .rss | .rsa | .ss | .sa | .ldi4 _ | .ldi8 _ | .clc | .rsv0100 => false
  | .xmem _ _ _ _ | .xop | .nop | .reti | .swi | .wfi | .rsv1100 | .rsv1000 | .rsv0000 => false

/-- The two's-complement value of the low `w` bits of a number. -/
abbrev signedValue (w v : Nat) : Int := (BitVec.ofNat w v).toInt

/-- An exact signed result lies outside `-2^(w-1) .. 2^(w-1)-1` (40_arithmetic.md R150). -/
abbrev Overflows (w : Nat) (x : Int) : Prop := x < -2 ^ (w - 1) ∨ 2 ^ (w - 1) ≤ x

/-- Every address reads as before. -/
abbrev KeepsMemory (s t : State) : Prop := ∀ a : Half, t.mem.read a = s.mem.read a

end Sys2Proof.Machine
end

