-- ==== Sys2Proof/Certificates/Slice0/Obligations.lean ====
section
/-! DEFINITION. The statements about the machine, for the provers. In a statement about `exec` the state `s`
has its fetch position after the instruction, as the step leaves it (30_encoding.md R113,
notes/assumptions/21.md), and an equation `t = ⟨s with …⟩` is the frame: every field it does not name is
unchanged. A decision D<n> is one of 92_eei_decisions.md, the spec's own; a statement that rests on one is
derived, and its docstring names it. -/

open Sys2Proof Sys2Proof.Machine

/-! ### Encoding -/

/-- Decode after encode, for every instruction, every operand and every decode context (30_encoding.md
sections 2 to 5; decisions D2, D5, D6, D15 to D18 fix the encodings). -/
def Obligations.DecodeOfEncode : Prop :=
  ∀ (c : DecodeCtx) (i : Instr) (rest : List Nibble),
    i.wellFormed c = true → decode c (encode i ++ rest) = .ok (i, rest)

/-- Encode after decode: what the decoder reads is the encoding of a row whose condition holds
(30_encoding.md R127). -/
def Obligations.EncodeOfDecode : Prop :=
  ∀ (c : DecodeCtx) (ns rest : List Nibble) (i : Instr),
    decode c ns = .ok (i, rest) → i.wellFormed c = true ∧ ns = encode i ++ rest

/-- Every (column, opcode) pair decodes to something in that column, whatever follows (30_encoding.md
section 6). -/
def Obligations.EveryOpcodeDecodes : Prop :=
  ∀ (c : DecodeCtx) (op n0 n1 : Nibble) (rest : List Nibble),
    ∃ i r, decode c (op :: n0 :: n1 :: rest) = .ok (i, r) ∧ i.extended = c.ext ∧
      (encode i).head? = some op

/-- A few words written out from the opcode map and the formats, MAD in a configuration that has the MAD
profile (30_encoding.md sections 2, 5, 6, 8). -/
def Obligations.SampleWordsDecode : Prop :=
  decode (decodeCtxOf Config.default false 0x00 .ul) [0b0001] = .ok (.add, []) ∧
  decode (decodeCtxOf Config.default false 0x08 .ul) [0b0001, 0b0111] = .ok (.addi4 7, []) ∧
  decode (decodeCtxOf Config.default true 0x09 .lk8) [0b1101, 0b0101, 0b1010] =
    .ok (.xori8 0xA5, []) ∧
  decode (decodeCtxOf Config.default true 0x00 .ul) [0b0010, 0b0001, 0b0100] = .ok (.cfg 0x41, []) ∧
  decode (decodeCtxOf Config.default false 0x60 .ul) [0b0111, 0b0100, 0b0000] =
    .ok (.beqz8 0x04, []) ∧
  decode (decodeCtxOf Config.default false 0x02 .lk16) [0b1100, 0b1101] =
    .ok (.xmem .store true .up .ra1, []) ∧
  decode (decodeCtxOf Config.default true 0x02 .lk16) [0b0110, 0b0100] = .ok (.csrst 4, []) ∧
  decode (decodeCtxOf Config.default true 0x00 .ul) [0b1100] = .ok (.reti, []) ∧
  decode (decodeCtxOf { Config.default with hasMad := true } true 0x03 .spe) [0b1100, 0b1110] =
    .ok (.mad .by4 true .low, [])

/-- `FetchNibble()`: which nibble of the byte at PC is read, and where the position goes (30_encoding.md
R111 with the parameter NIBBLE_ORDER; decision D2). -/
def Obligations.FetchTakesNibblesInOrder : Prop :=
  ∀ s : State,
    s.nextNibble =
        (if (s.par.nibbleOrder = .lowFirst ∧ s.nib = false) ∨
            (s.par.nibbleOrder = .highFirst ∧ s.nib = true)
          then (s.mem.read s.pc).extractLsb' 0 4 else (s.mem.read s.pc).extractLsb' 4 4) ∧
      s.advance = (if s.nib then { s with pc := s.pc + 1, nib := false } else { s with nib := true })

/-! ### The step -/

/-- When the nibbles at the fetch position decode to `i`, and the core is neither asleep nor interrupted
nor reset, the step is exec of `i` at the state whose fetch position is after `i`, followed by the
timer and the single-step request (60_exceptions.md section 4). -/
def Obligations.StepRunsDecodedInstruction : Prop :=
  ∀ (s : State) (m : LinkMode) (i : Instr) (rest : List Nibble),
    s.env = [] → s.linkMode = some m → s.staysAsleep = false → s.awaken.takesInterrupt = false →
    decode (s.awaken.decodeCtx m) (State.peek 3 s.awaken) = .ok (i, rest) →
      step s =
        (match exec i (State.advanceBy i.nibbles s.awaken) with
        | .next t => .next (retire s.awaken.armed t)
        | .fault r => .fault r
        | .refused r => .refused r)

/-- An interrupt waits: in the middle of a byte, with IE = 0, with no enabled source pending, without the
Interrupt Profile, or where a pending XOP or CMP is atomic, the instruction at the fetch position runs
(60_exceptions.md R347; decisions D7, D19, D41). -/
def Obligations.InterruptWaitsForBoundary : Prop :=
  ∀ (s : State) (m : LinkMode) (u : State),
    s.env = [] → s.linkMode = some m → s.sleep = false →
    (s.nib = true ∨ s.cfg.getLsbD 4 = false ∨ s.par.hasInt = false ∨
      (s.par.xopAtomic = true ∧ s.xopp = true) ∨ (s.par.cmpAtomic = true ∧ s.cmpp = true) ∨
      ((s.swIE && s.swP) = false ∧ (s.extIE && s.extP) = false ∧
        (s.tIE && !s.wdog && s.tP) = false)) →
    exec (s.currentInstr m) (State.advanceBy (s.currentInstr m).nibbles s) = .next u →
      step s = .next (retire s.armed u)

/-- Taking an interrupt: the sixteen frame bytes, what changes and that nothing else does
(60_exceptions.md R342, R347, R350, R351, R353; decisions D12, D19 to D22, D41). Where the timer counts
cycles, its increments follow the entry (CycleTimerAdvances, notes/assumptions/8.md). -/
def Obligations.InterruptEntrySavesFrame : Prop :=
  ∀ s : State,
    s.env = [] → s.linkMode ≠ none → s.par.hasInt = true → s.mem.wf = true →
    s.cfg.getLsbD 4 = true →
    ((s.swIE && s.swP) = true ∨ (s.extIE && s.extP) = true ∨ (s.tIE && !s.wdog && s.tP) = true) →
    s.nib = false → (s.par.xopAtomic && s.xopp) = false → (s.par.cmpAtomic && s.cmpp) = false →
      ∃ t, t = trapEntry s.awaken ∧ step s = .next (idleTick t) ∧
        (s.par.hasTimer = false ∨ s.par.timerMode = .retired → step s = .next t) ∧
        t = { s with
              mem := t.mem, cfg := t.cfg, iar := s.ia, xopp := false, cmpp := false, z := false,
              inIsr := true, dbgStep := false, sleep := false,
              pc := BitVec.ofNat 16 (s.ia.toNat * 256 + 16), nib := false } ∧
        (∀ j, t.cfg.getLsbD j = (s.cfg.getLsbD j && j != 4)) ∧
        (∀ k, k < 16 →
          t.mem.read (BitVec.ofNat 16 (s.ia.toNat * 256 + k)) =
            ([s.pc.setWidth 8, s.pc.extractLsb' 8 8, s.cfg,
              BitVec.ofNat 8 (s.c.toNat + 2 * s.z.toNat + 4 * s.n.toNat + 8 * s.v.toNat),
              s.acc.setWidth 8, s.acc.extractLsb' 8 8, s.rs0.setWidth 8, s.rs0.extractLsb' 8 8,
              s.rs1.setWidth 8, s.rs1.extractLsb' 8 8, s.ra0.setWidth 8, s.ra0.extractLsb' 8 8,
              s.ra1.setWidth 8, s.ra1.extractLsb' 8 8, s.ia, s.iar] : List Byte).getD k 0) ∧
        (∀ a : Half, a.toNat / 256 ≠ s.ia.toNat ∨ 16 ≤ a.toNat % 256 →
          t.mem.read a = s.mem.read a) ∧
        t.mem.wf = true

/-- Return undoes entry: after an interrupt entry at `s`, a RETI from any state that still has the frame's
bytes and the latched page restores PC, CFG, C, N, V, RA1, IA and IAR as they were, clears IN_ISR, and
leaves everything else as the handler left it (60_exceptions.md sections 5, 6; decisions D12, D20, D21). -/
def Obligations.ReturnRestoresInterruptedContext : Prop :=
  ∀ s t u : State,
    s.env = [] → s.linkMode ≠ none → s.par.hasInt = true →
    (s.par.hasTimer = false ∨ s.par.timerMode = .retired) → s.mem.wf = true →
    s.cfg.getLsbD 4 = true →
    ((s.swIE && s.swP) = true ∨ (s.extIE && s.extP) = true ∨ (s.tIE && !s.wdog && s.tP) = true) →
    s.nib = false → (s.par.xopAtomic && s.xopp) = false → (s.par.cmpAtomic && s.cmpp) = false →
    step s = .next t → u.linkMode ≠ none → u.iar = t.iar →
    (∀ k, k < 16 → u.mem.read (BitVec.ofNat 16 (s.ia.toNat * 256 + k)) =
      t.mem.read (BitVec.ofNat 16 (s.ia.toNat * 256 + k))) →
      exec .reti u =
        .next { u with
                pc := s.pc, nib := false, cfg := s.cfg, c := s.c, n := s.n, v := s.v, z := false,
                ra1 := s.ra1, ia := s.ia, iar := s.iar, inIsr := false, xopp := false,
                cmpp := false }

/-- RETI loads eight bytes of the IAR page, whatever IN_ISR is; Z is cleared by its completion
(47_interrupt_profile.md R300; decisions D12, D40). -/
def Obligations.RetiLoadsFrame : Prop :=
  ∀ s : State, s.linkMode ≠ none →
    ∃ t, exec .reti s = .next t ∧
      t.pc.toNat = (s.mem.read (BitVec.ofNat 16 (s.iar.toNat * 256))).toNat +
        256 * (s.mem.read (BitVec.ofNat 16 (s.iar.toNat * 256 + 1))).toNat ∧
      t.cfg = s.mem.read (BitVec.ofNat 16 (s.iar.toNat * 256 + 2)) ∧
      t.c = (s.mem.read (BitVec.ofNat 16 (s.iar.toNat * 256 + 3))).getLsbD 0 ∧
      t.n = (s.mem.read (BitVec.ofNat 16 (s.iar.toNat * 256 + 3))).getLsbD 2 ∧
      t.v = (s.mem.read (BitVec.ofNat 16 (s.iar.toNat * 256 + 3))).getLsbD 3 ∧
      t.ra1.toNat = (s.mem.read (BitVec.ofNat 16 (s.iar.toNat * 256 + 12))).toNat +
        256 * (s.mem.read (BitVec.ofNat 16 (s.iar.toNat * 256 + 13))).toNat ∧
      t.ia = s.mem.read (BitVec.ofNat 16 (s.iar.toNat * 256 + 14)) ∧
      t.iar = s.mem.read (BitVec.ofNat 16 (s.iar.toNat * 256 + 15)) ∧
      t = { s with
            pc := t.pc, nib := false, cfg := t.cfg, c := t.c, n := t.n, v := t.v, ra1 := t.ra1,
            ia := t.ia, iar := t.iar, inIsr := false, z := false, xopp := false, cmpp := false } ∧
      KeepsMemory s t

/-- SWI only sets SW_P and WFI only sets SLEEP, beside the common completion (47_interrupt_profile.md
section of R302 and R303; decisions D23, D34). -/
def Obligations.SwiAndWfiSetTheirBit : Prop :=
  ∀ s : State, s.linkMode ≠ none →
    exec .swi s = .next { s with swP := true, xopp := false, cmpp := false, z := false } ∧
    exec .wfi s = .next { s with sleep := true, xopp := false, cmpp := false, z := false }

/-- While asleep with no enabled source pending, a step changes nothing when the timer does not count
cycles (47_interrupt_profile.md R303, R304; decisions D23, D43); where it does, CycleTimerAdvances. -/
def Obligations.SleepHoldsEverything : Prop :=
  ∀ s : State,
    s.env = [] → s.linkMode ≠ none → s.par.hasInt = true → s.sleep = true →
    (s.par.hasTimer = false ∨ s.par.timerMode = .retired) →
    (s.swIE && s.swP) = false → (s.extIE && s.extP) = false → (s.tIE && !s.wdog && s.tP) = false →
      step s = .next s

/-- A sleeping core with an enabled source pending goes on as if it were awake, whatever CFG.IE is
(47_interrupt_profile.md R303, R304; decision D23). -/
def Obligations.EnabledSourceWakes : Prop :=
  ∀ s : State,
    s.env = [] → s.par.hasInt = true → s.sleep = true →
    ((s.swIE && s.swP) = true ∨ (s.extIE && s.extP) = true ∨ (s.tIE && !s.wdog && s.tP) = true) →
      step s = step { s with sleep := false }

/-- The environment's external request sets EXT_P before the step and does nothing else, and an event that
has come leaves the rest of the schedule as it was: in any schedule, the step is that of the core with no
event to come (10_state.md R56, 60_exceptions.md R345; decision D37; the schedule of events is the
model's, notes/assumptions/7.md). So what a statement says for `env = []` holds for every schedule. -/
def Obligations.ExternalLineSetsPending : Prop :=
  ∀ (s : State) (rest : List EnvEvent),
    step { s with env := .extLine :: rest } =
        step { s with env := .quiet :: rest, extP := s.extP || s.par.hasInt } ∧
      step { s with env := .quiet :: rest } =
        (match step { s with env := [] } with
        | .next t => .next { t with env := rest }
        | .fault r => .fault r
        | .refused r => .refused r)

/-- The environment's reset gives every register its reset value and keeps memory
(70_reset_and_hazards.md R390; decisions D25, D33; the values are those of ResetImageIsZero; par, env and
draws are the model's own fields). -/
def Obligations.EnvironmentResetKeepsMemory : Prop :=
  ∀ (s : State) (rest : List EnvEvent), s.env = .reset :: rest →
    step s =
      .next { State.powerOn s.par with mem := s.mem, env := rest, draws := s.draws }

/-! ### Arithmetic -/

/-- ADD and ADDI: A, C, N, V, and nothing else but the common completion (40_arithmetic.md, ADD; N and V
by decision D11, immediates by D6). The step's state is `t` after NV_RULE, by default `t` itself
(NvRuleOpensFlags). An 8-bit immediate in UL (under an IMM_NIBBLES other than the default) keeps its low
four bits, and C and V are those of the truncated operand: the model's choice
(notes/assumptions/15.md). -/
def Obligations.AddResult : Prop :=
  ∀ (m : LinkMode) (s : State) (imm4 : Nibble) (imm8 : Byte), s.linkMode = some m →
    ∀ p ∈ [(Instr.add, s.rs0.toNat % 2 ^ width m), (.addi4 imm4, imm4.toNat),
        (.addi8 imm8, imm8.toNat % 2 ^ width m)],
      ∃ (t : State) (sum cin : Nat), exec p.1 s = .next t.applyNvRule ∧
        cin = (if s.cfg.getLsbD 7 then s.c.toNat else 0) ∧
        sum = s.acc.toNat % 2 ^ width m + p.2 + cin ∧
        t.acc.toNat % 2 ^ width m = sum % 2 ^ width m ∧
        t.acc.toNat / 2 ^ width m = s.acc.toNat / 2 ^ width m ∧
        (t.c = true ↔ 2 ^ width m ≤ sum) ∧
        t.n = t.acc.getLsbD (width m - 1) ∧
        (t.v = true ↔
          Overflows (width m) (signedValue (width m) s.acc.toNat + signedValue (width m) p.2 + cin)) ∧
        t = { s with
              acc := t.acc, c := t.c, n := t.n, v := t.v, xopp := false, cmpp := false, z := false } ∧
        KeepsMemory s t

/-- SUB and SUBI, with the borrow input of the parameter SUB_BIN (40_arithmetic.md, SUB; decisions D8,
D11, D6). The step's state is `t` after NV_RULE (NvRuleOpensFlags). An 8-bit immediate in UL (under an
IMM_NIBBLES other than the default) keeps its low four bits, and C and V are those of the truncated
operand: the model's choice (notes/assumptions/15.md). -/
def Obligations.SubResult : Prop :=
  ∀ (m : LinkMode) (s : State) (imm4 : Nibble) (imm8 : Byte), s.linkMode = some m →
    ∀ p ∈ [(Instr.sub, s.rs0.toNat % 2 ^ width m), (.subi4 imm4, imm4.toNat),
        (.subi8 imm8, imm8.toNat % 2 ^ width m)],
      ∃ (t : State) (diff bin : Int), exec p.1 s = .next t.applyNvRule ∧
        bin = (if s.cfg.getLsbD 7 = false then 0
          else if s.par.subBin = .notCarry then 1 - s.c.toNat else s.c.toNat) ∧
        diff = (s.acc.toNat % 2 ^ width m : Nat) - (p.2 : Nat) - bin ∧
        ((t.acc.toNat % 2 ^ width m : Nat) : Int) = diff % 2 ^ width m ∧
        t.acc.toNat / 2 ^ width m = s.acc.toNat / 2 ^ width m ∧
        (t.c = true ↔ 0 ≤ diff) ∧
        t.n = t.acc.getLsbD (width m - 1) ∧
        (t.v = true ↔
          Overflows (width m) (signedValue (width m) s.acc.toNat - signedValue (width m) p.2 - bin)) ∧
        t = { s with
              acc := t.acc, c := t.c, n := t.n, v := t.v, xopp := false, cmpp := false, z := false } ∧
        KeepsMemory s t

/-- INC and DEC wrap inside the active width and ignore CI (40_arithmetic.md, INC and DEC; N and V by
decision D11; NV_RULE as in NvRuleOpensFlags). -/
def Obligations.IncDecResult : Prop :=
  ∀ (m : LinkMode) (s : State), s.linkMode = some m →
    (∃ t, exec .inc s = .next t.applyNvRule ∧
      t.acc.toNat % 2 ^ width m = (s.acc.toNat + 1) % 2 ^ width m ∧
      t.acc.toNat / 2 ^ width m = s.acc.toNat / 2 ^ width m ∧
      (t.c = true ↔ s.acc.toNat % 2 ^ width m = 2 ^ width m - 1) ∧
      t.n = t.acc.getLsbD (width m - 1) ∧
      (t.v = true ↔ s.acc.toNat % 2 ^ width m = 2 ^ (width m - 1) - 1) ∧
      t = { s with
            acc := t.acc, c := t.c, n := t.n, v := t.v, xopp := false, cmpp := false, z := false } ∧
      KeepsMemory s t) ∧
    (∃ t, exec .dec s = .next t.applyNvRule ∧
      (t.acc.toNat + 1) % 2 ^ width m = s.acc.toNat % 2 ^ width m ∧
      t.acc.toNat / 2 ^ width m = s.acc.toNat / 2 ^ width m ∧
      (t.c = false ↔ s.acc.toNat % 2 ^ width m = 0) ∧
      t.n = t.acc.getLsbD (width m - 1) ∧
      (t.v = true ↔ s.acc.toNat % 2 ^ width m = 2 ^ (width m - 1)) ∧
      t = { s with
            acc := t.acc, c := t.c, n := t.n, v := t.v, xopp := false, cmpp := false, z := false } ∧
      KeepsMemory s t)

/-! ### Logic and bits -/

/-- AND, OR, XOR and their immediate forms, bit by bit (41_logical.md; immediates by decision D6; NV_RULE
as in NvRuleOpensFlags; an 8-bit immediate in UL keeps its low four bits, the model's choice,
notes/assumptions/15.md). -/
def Obligations.LogicResult : Prop :=
  ∀ (m : LinkMode) (s : State) (imm4 : Nibble) (imm8 : Byte), s.linkMode = some m →
    ∀ p ∈ [(Instr.and_, s.rs0.getLsbD, and), (.andi4 imm4, imm4.getLsbD, and),
        (.andi8 imm8, imm8.getLsbD, and), (.or_, s.rs0.getLsbD, or), (.ori4 imm4, imm4.getLsbD, or),
        (.ori8 imm8, imm8.getLsbD, or), (.xor_, s.rs0.getLsbD, xor), (.xori4 imm4, imm4.getLsbD, xor),
        (.xori8 imm8, imm8.getLsbD, xor)],
      ∃ t, exec p.1 s = .next t.applyNvRule ∧
        (∀ j, t.acc.getLsbD j =
          if j < width m then p.2.2 (s.acc.getLsbD j) (p.2.1 j) else s.acc.getLsbD j) ∧
        t = { s with acc := t.acc, xopp := false, cmpp := false, z := false } ∧
        KeepsMemory s t

/-- INV complements the active width, leaves the flags, and is one nibble even with CFG.IMM = 1; INV then
INC negates (41_logical.md, INV). That is for the default NV_RULE; under its alternative N and V are free
after it (93_implementation_defined.md U7, notes/assumptions/2.md, 23.md; NvRuleOpensFlags). -/
def Obligations.InvComplementsActiveWidth : Prop :=
  (∀ c : DecodeCtx, c.ext = true → decode c [0b0101] = .ok (.inv, [])) ∧
  (∀ (m : LinkMode) (s : State), s.linkMode = some m →
    ∃ t, exec .inv s = .next t.applyNvRule ∧
      (s.par.nvRule = .arithmetic → exec .inv s = .next t) ∧
      (∀ j, t.acc.getLsbD j = if j < width m then !s.acc.getLsbD j else s.acc.getLsbD j) ∧
      t = { s with acc := t.acc, xopp := false, cmpp := false, z := false } ∧
      KeepsMemory s t) ∧
  ∀ (m : LinkMode) (s t u : State), s.linkMode = some m → exec .inv s = .next t →
    exec .inc t = .next u → (u.acc.toNat + s.acc.toNat) % 2 ^ width m = 0

/-- SHL and SHR: the bit expelled goes to C, a 0 comes in, N and V stay (42_bit_manipulation.md; decisions
D11, D35; NV_RULE as in NvRuleOpensFlags). -/
def Obligations.ShiftResult : Prop :=
  ∀ (m : LinkMode) (s : State), s.linkMode = some m →
    (∃ t, exec .shl s = .next t.applyNvRule ∧
      (∀ j, t.acc.getLsbD j =
        if j < width m then (if j = 0 then false else s.acc.getLsbD (j - 1)) else s.acc.getLsbD j) ∧
      t.c = s.acc.getLsbD (width m - 1) ∧
      t = { s with acc := t.acc, c := t.c, xopp := false, cmpp := false, z := false } ∧
      KeepsMemory s t) ∧
    (∃ t, exec .shr s = .next t.applyNvRule ∧
      (∀ j, t.acc.getLsbD j =
        if j < width m then (if j = width m - 1 then false else s.acc.getLsbD (j + 1))
        else s.acc.getLsbD j) ∧
      t.c = s.acc.getLsbD 0 ∧
      t = { s with acc := t.acc, c := t.c, xopp := false, cmpp := false, z := false } ∧
      KeepsMemory s t)

/-- BTST reads one bit of the full ACC, TST the active width; both write C only (42_bit_manipulation.md;
decisions D14, D6; NV_RULE as in NvRuleOpensFlags; an 8-bit TST immediate in UL keeps its low four bits,
the model's choice, notes/assumptions/15.md). -/
def Obligations.BitTestResult : Prop :=
  ∀ (m : LinkMode) (s : State) (imm4 : Nibble) (imm8 : Byte), s.linkMode = some m →
    (∀ p ∈ [(Instr.btst, s.rs0.toNat % 16), (.btsti4 imm4, imm4.toNat),
        (.btsti8 imm8, imm8.toNat % 16)],
      exec p.1 s =
        .next (State.applyNvRule
          { s with c := s.acc.getLsbD p.2, xopp := false, cmpp := false, z := false })) ∧
    (∀ p ∈ [(Instr.tst, s.rs0.getLsbD), (.tsti4 imm4, imm4.getLsbD), (.tsti8 imm8, imm8.getLsbD)],
      ∃ t, exec p.1 s = .next t.applyNvRule ∧
        (t.c = true ↔ ∃ j, j < width m ∧ s.acc.getLsbD j = true ∧ p.2 j = true) ∧
        t = { s with c := t.c, xopp := false, cmpp := false, z := false } ∧
        KeepsMemory s t)

/-! ### Control flow -/

/-- BEQz, taken and not taken: after CMP it tests Z, else the active accumulator; the target is relative to
PC_next (43_control_flow.md; decisions D3, D10, D45). -/
def Obligations.BeqzResult : Prop :=
  ∀ (m : LinkMode) (s : State) (imm4 : Nibble) (imm8 : Byte), s.linkMode = some m →
    ∀ p ∈ [(Instr.beqz4 imm4, imm4.toInt), (.beqz8 imm8, imm8.toInt)],
      ((if s.cmpp then s.z = true else s.acc.toNat % 2 ^ width m = 0) →
        exec p.1 s =
          .next { s with
                  pc := (if s.nib then s.pc + 1 else s.pc) +
                    BitVec.ofInt 16 (p.2 * (if s.cfg.getLsbD 5 then 4 else 1)),
                  nib := false, xopp := false, cmpp := false, z := false }) ∧
      (¬(if s.cmpp then s.z = true else s.acc.toNat % 2 ^ width m = 0) →
        exec p.1 s = .next { s with xopp := false, cmpp := false, z := false })

/-- BC, taken and not taken (43_control_flow.md; decision D3). -/
def Obligations.BcResult : Prop :=
  ∀ (s : State) (imm4 : Nibble) (imm8 : Byte), s.linkMode ≠ none →
    ∀ p ∈ [(Instr.bc4 imm4, imm4.toInt), (.bc8 imm8, imm8.toInt)],
      (s.c = true →
        exec p.1 s =
          .next { s with
                  pc := (if s.nib then s.pc + 1 else s.pc) +
                    BitVec.ofInt 16 (p.2 * (if s.cfg.getLsbD 5 then 4 else 1)),
                  nib := false, xopp := false, cmpp := false, z := false }) ∧
      (s.c = false → exec p.1 s = .next { s with xopp := false, cmpp := false, z := false })

/-- JAL: RA1 takes PC_next and control goes to RA0 (43_control_flow.md, JAL; decision D3). -/
def Obligations.JalLinksAndJumps : Prop :=
  ∀ s : State, s.linkMode ≠ none →
    exec .jal s =
      .next { s with
              ra1 := if s.nib then s.pc + 1 else s.pc, pc := s.ra0, nib := false, xopp := false,
              cmpp := false, z := false }

/-- JMP: control goes to RA0 and nothing is linked (43_control_flow.md R214). -/
def Obligations.JmpGoesToRa0 : Prop :=
  encode .jmp = [0b1111] ∧ (∀ c, Instr.wellFormed c .jmp = c.ext) ∧
  ∀ s : State, s.linkMode ≠ none →
    exec .jmp s = .next { s with pc := s.ra0, nib := false, xopp := false, cmpp := false, z := false }

/-- A call returns: after JAL, a function that keeps RA1 and ends with RSA and JMP goes on at the call's
PC_next (43_control_flow.md section 3; decision D3). -/
def Obligations.CallReturnsToNext : Prop :=
  ∀ s t u v : State, s.linkMode ≠ none → u.linkMode ≠ none → exec .jal s = .next t →
    u.ra1 = t.ra1 → exec .rsa u = .next v →
      ∃ w, exec .jmp v = .next w ∧ w.pc = (if s.nib then s.pc + 1 else s.pc) ∧ w.nib = false

/-! ### Structure -/

/-- CMP: the flags of `A - S` with no borrow input, Z on equality, CMPP set, ACC and RS0 kept
(44_structural.md, CMP; decisions D9 to D11; NV_RULE as in NvRuleOpensFlags). -/
def Obligations.CmpResult : Prop :=
  ∀ (m : LinkMode) (s : State), s.linkMode = some m →
    ∃ t, exec .cmp s = .next t.applyNvRule ∧
      (t.c = true ↔ s.rs0.toNat % 2 ^ width m ≤ s.acc.toNat % 2 ^ width m) ∧
      (t.z = true ↔ s.acc.toNat % 2 ^ width m = s.rs0.toNat % 2 ^ width m) ∧
      t.n = (s.acc - s.rs0).getLsbD (width m - 1) ∧
      (t.v = true ↔ Overflows (width m)
        (signedValue (width m) s.acc.toNat - signedValue (width m) s.rs0.toNat)) ∧
      t = { s with c := t.c, z := t.z, n := t.n, v := t.v, cmpp := true, xopp := false } ∧
      KeepsMemory s t

/-- CFG loads all eight bits, and they select the link mode and the decode context of the state after it, as
of every state `u` with that CFG: the column is XOPP, `imm` and `bw` are bits 3 and 6, `len` is
IMM_NIBBLES(W), `wide` and `spe` are as W and HAS_MAD say (44_structural.md, CFG; 10_state.md, section 3;
30_encoding.md, sections 2 to 4; decisions D17, D36). That the instruction decoded in that context is the one
the step at such a state runs is StepRunsDecodedInstruction. -/
def Obligations.CfgLoadsImmediate : Prop :=
  ∀ (s : State) (imm : Byte), s.linkMode ≠ none →
    ∃ t, t = { s with cfg := imm, xopp := false, cmpp := false, z := false } ∧
      exec (.cfg imm) s = .next t ∧
      ∀ u : State, u.par = t.par → u.cfg = t.cfg →
        u.linkMode =
          (match imm.getLsbD 1, imm.getLsbD 0 with
          | false, false => some .ul
          | false, true => some .lk8
          | true, false => some .lk16
          | true, true => if s.par.hasMad then some .spe else none) ∧
        ∀ m : LinkMode, u.linkMode = some m →
          u.decodeCtx m =
            { par := s.par
              ext := u.xopp
              imm := imm.getLsbD 3
              bw := imm.getLsbD 6
              mode := m
              len := match imm.getLsbD 1, imm.getLsbD 0 with
                | false, false => s.par.immUl
                | false, true => s.par.immLk8
                | true, false => s.par.immLk16
                | true, true => s.par.immSpe } ∧
          (u.decodeCtx m).wide = (imm.getLsbD 1 && (!imm.getLsbD 0 || s.par.hasMad)) ∧
          (u.decodeCtx m).spe = (imm.getLsbD 1 && imm.getLsbD 0 && s.par.hasMad)

/-- RACC and RRS by link mode and direction; at 16 bits they change nothing (44_structural.md, RACC and
RRS; decision D13). -/
def Obligations.RotationResult : Prop :=
  ∀ (m : LinkMode) (s : State), s.linkMode = some m →
    ∀ rot : Half → Half,
      (∀ x : Half, rot x =
        (match m, s.par.raccDir with
        | .ul, .right => (x.extractLsb' 0 4 ++ x.extractLsb' 4 12 : BitVec 16)
        | .ul, .left => (x.extractLsb' 0 12 ++ x.extractLsb' 12 4 : BitVec 16)
        | .lk8, _ => (x.extractLsb' 0 8 ++ x.extractLsb' 8 8 : BitVec 16)
        | _, _ => x)) →
      exec .racc s = .next { s with acc := rot s.acc, xopp := false, cmpp := false, z := false } ∧
      exec .rrs s = .next { s with rs0 := rot s.rs0, xopp := false, cmpp := false, z := false }

/-- RSS, RSA and SA exchange two 16-bit registers in every link mode and leave the flags; RA0 is written by
SA, RSA and XMEM post-modification only (44_structural.md R237, R238, R241). -/
def Obligations.FullExchanges : Prop :=
  encode .rss = [0b1010] ∧ encode .rsa = [0b1010] ∧ encode .sa = [0b1110] ∧
  (∀ c, Instr.wellFormed c .rss = !c.ext ∧ Instr.wellFormed c .rsa = c.ext ∧
    Instr.wellFormed c .sa = c.ext) ∧
  ∀ s : State, s.linkMode ≠ none →
    exec .rss s =
      .next { s with rs0 := s.rs1, rs1 := s.rs0, xopp := false, cmpp := false, z := false } ∧
    exec .rsa s =
      .next { s with ra0 := s.ra1, ra1 := s.ra0, xopp := false, cmpp := false, z := false } ∧
    exec .sa s =
      .next { s with acc := s.ra0, ra0 := s.acc, xopp := false, cmpp := false, z := false } ∧
    ∀ (i : Instr) (t : State), exec i s = .next t →
      (t.ra0 = s.ra0 ∨ i = .sa ∨ i = .rsa ∨ ∃ op d, i = .xmem op true d .ra0)

/-- SS exchanges the active width of ACC and RS0 and keeps the bits above (44_structural.md R240). -/
def Obligations.SsExchangesActiveWidth : Prop :=
  encode .ss = [0b1110] ∧ (∀ c, Instr.wellFormed c .ss = !c.ext) ∧
  ∀ (m : LinkMode) (s : State), s.linkMode = some m →
    ∃ t, exec .ss s = .next t ∧
      (∀ j, t.acc.getLsbD j = if j < width m then s.rs0.getLsbD j else s.acc.getLsbD j) ∧
      (∀ j, t.rs0.getLsbD j = if j < width m then s.acc.getLsbD j else s.rs0.getLsbD j) ∧
      t = { s with acc := t.acc, rs0 := t.rs0, xopp := false, cmpp := false, z := false } ∧
      KeepsMemory s t

/-- LDi zero-extends its immediate into the active accumulator (44_structural.md, LDi; decisions D6, D34).
An 8-bit immediate in UL keeps its low four bits, the model's choice (notes/assumptions/15.md). -/
def Obligations.LdiResult : Prop :=
  ∀ (m : LinkMode) (s : State) (imm4 : Nibble) (imm8 : Byte), s.linkMode = some m →
    ∀ p ∈ [(Instr.ldi4 imm4, imm4.toNat), (.ldi8 imm8, imm8.toNat % 2 ^ width m)],
      ∃ t, exec p.1 s = .next t ∧
        t.acc.toNat % 2 ^ width m = p.2 ∧
        t.acc.toNat / 2 ^ width m = s.acc.toNat / 2 ^ width m ∧
        t = { s with acc := t.acc, xopp := false, cmpp := false, z := false } ∧
        KeepsMemory s t

/-- NOP is the default nibble 0000 in every mode and changes nothing but what every completion clears
(44_structural.md R246). -/
def Obligations.NopChangesNothing : Prop :=
  (∀ c : DecodeCtx, c.ext = false → decode c [0b0000] = .ok (.nop, [])) ∧
  ∀ s : State, s.linkMode ≠ none →
    exec .nop s = .next { s with xopp := false, cmpp := false, z := false }

/-- XOP sets XOPP, CLC clears C, and opcode 0110 without CSR access does nothing (44_structural.md, XOP,
CLC and opcode 0110; decisions D7, D15, D16). -/
def Obligations.XopClcAndNoOps : Prop :=
  ∀ s : State, s.linkMode ≠ none →
    exec .xop s = .next { s with xopp := true, cmpp := false, z := false } ∧
    exec .clc s = .next { s with c := false, xopp := false, cmpp := false, z := false } ∧
    exec .nop0110 s = .next { s with xopp := false, cmpp := false, z := false } ∧
    exec .nop0110x s = .next { s with xopp := false, cmpp := false, z := false }

/-- The reserved extended opcodes are no-ops by default; under the parameter `refuse` the model stops on
them, but where the source calls the encoding NOP (44_structural.md, reserved opcodes; decision D16;
93_implementation_defined.md U1; the model's reading is notes/assumptions/11.md). -/
def Obligations.ReservedOpcodes : Prop :=
  ∀ s : State, s.linkMode ≠ none →
    ∀ i ∈ [Instr.rsv0100, .rsv1100, .rsv1000, .rsv0000],
      (s.par.rsvBehaviour = .noOp →
        exec i s = .next { s with xopp := false, cmpp := false, z := false }) ∧
      (s.par.rsvBehaviour = .refuse → (i = .rsv0100 ∨ s.par.hasMad = false) →
        exec i s = .refused .reservedOpcode) ∧
      (s.par.rsvBehaviour = .refuse → i ≠ .rsv0100 → s.par.hasMad = true →
        exec i s = .next { s with xopp := false, cmpp := false, z := false })

/-! ### Memory access -/

/-- XMEM load: what comes into ACC, the address register after, and nothing else (45_xmem.md, load and
post-modification; decisions D27, D28). -/
def Obligations.XmemLoadResult : Prop :=
  ∀ (m : LinkMode) (s : State) (post : Bool) (dir : StrideDir) (ar : AddrReg) (a d : Half),
    s.linkMode = some m → a = (if ar = .ra1 then s.ra1 else s.ra0) →
    d = (if post = false then 0
      else if dir = .up then (if width m = 16 then 2 else 1) else (if width m = 16 then -2 else -1)) →
      ∃ t, exec (.xmem .load post dir ar) s = .next t ∧
        (m = .ul → t.acc.toNat = s.acc.toNat / 16 * 16 + (s.mem.read a).toNat % 16) ∧
        (m = .lk8 → t.acc.toNat = s.acc.toNat / 256 * 256 + (s.mem.read a).toNat) ∧
        (m = .lk16 ∨ m = .spe →
          t.acc.toNat = (s.mem.read a).toNat + 256 * (s.mem.read (a + 1)).toNat) ∧
        t = { s with
              acc := t.acc, ra0 := if ar = .ra0 then a + d else s.ra0,
              ra1 := if ar = .ra1 then a + d else s.ra1, xopp := false, cmpp := false, z := false } ∧
        KeepsMemory s t

/-- XMEM store: the bytes stored at the address register's value, every other byte kept, the address
register after, and nothing else (45_xmem.md, store and post-modification; decisions D27, D28). The
memory is in canonical form, as every step keeps it. -/
def Obligations.XmemStoreResult : Prop :=
  ∀ (m : LinkMode) (s : State) (post : Bool) (dir : StrideDir) (ar : AddrReg) (a d : Half),
    s.linkMode = some m → s.mem.wf = true → a = (if ar = .ra1 then s.ra1 else s.ra0) →
    d = (if post = false then 0
      else if dir = .up then (if width m = 16 then 2 else 1) else (if width m = 16 then -2 else -1)) →
      ∃ t, exec (.xmem .store post dir ar) s = .next t ∧
        (m = .ul → (t.mem.read a).toNat =
          (s.mem.read a).toNat / 16 * 16 + s.acc.toNat % 16) ∧
        (m = .lk8 → (t.mem.read a).toNat = s.acc.toNat % 256) ∧
        (m = .lk16 ∨ m = .spe → (t.mem.read a).toNat = s.acc.toNat % 256 ∧
          (t.mem.read (a + 1)).toNat = s.acc.toNat / 256) ∧
        (∀ b : Half, b ≠ a → (width m = 16 → b ≠ a + 1) → t.mem.read b = s.mem.read b) ∧
        t = { s with
              mem := t.mem, ra0 := if ar = .ra0 then a + d else s.ra0,
              ra1 := if ar = .ra1 then a + d else s.ra1, xopp := false, cmpp := false, z := false }

/-- A value stored is the value loaded: a load in the same link mode, through any register that holds the
address, gives the active part of the accumulator that was stored (45_xmem.md; 20_memory.md section 5). -/
def Obligations.StoreThenLoad : Prop :=
  ∀ (m : LinkMode) (s t u v : State) (p p' : Bool) (d d' : StrideDir) (r r' : AddrReg),
    s.linkMode = some m → s.mem.wf = true → exec (.xmem .store p d r) s = .next t →
    u.linkMode = some m → u.mem = t.mem → u.addrReg r' = s.addrReg r →
    exec (.xmem .load p' d' r') u = .next v →
      v.acc.toNat % 2 ^ width m = s.acc.toNat % 2 ^ width m

/-- With AM = 0 the DIR bit is ignored: function nibbles 0010 and 0000, 0011 and 0001, 1010 and 1000, 1011
and 1001 are the same operation (45_xmem.md R264). -/
def Obligations.DirIgnoredWithoutPostModify : Prop :=
  (∀ c : DecodeCtx, c.ext = false →
    ∀ p ∈ [((0b0010 : Nibble), (0b0000 : Nibble)), (0b0011, 0b0001), (0b1010, 0b1000),
        (0b1011, 0b1001)],
      ∃ op d d' ar, decode c [0b1100, p.1] = .ok (.xmem op false d ar, []) ∧
        decode c [0b1100, p.2] = .ok (.xmem op false d' ar, [])) ∧
  ∀ (s : State) (op : MemOp) (d d' : StrideDir) (ar : AddrReg),
    exec (.xmem op false d ar) s = exec (.xmem op false d' ar) s

/-! ### CSR access -/

/-- CSRLD reads the CSR of its index, all sixteen, with no other effect than the common completion
(46_csr_access.md, the read function; decision D31 for the reserved bits of CSR3 and CSR4). That CSR9 to
CSR15 read 0, and are not refused, is the model's choice (notes/assumptions/13.md). -/
def Obligations.CsrReadFunction : Prop :=
  ∀ (s : State) (idx : Nibble), s.linkMode ≠ none →
    ∃ t, exec (.csrld idx) s = .next t ∧
      (idx = 0 → t.acc.toNat = s.cfg.toNat +
        256 * (s.c.toNat + 2 * s.z.toNat + 4 * s.n.toNat + 8 * s.v.toNat)) ∧
      (idx = 1 → t.acc = if s.par.hasTimer then s.timer else 0) ∧
      (idx = 2 → t.acc = if s.par.hasTimerCmp then s.timerCmp else 0) ∧
      (idx = 3 → t.acc.toNat =
        if s.par.hasInt then
          s.swIE.toNat + 2 * s.extIE.toNat + 4 * s.tIE.toNat + 128 * s.wdog.toNat +
            256 * s.inIsr.toNat + 512 * s.extP.toNat + 1024 * s.tP.toNat + 2048 * s.swP.toNat +
            4096 * (s.par.hasDbg && s.dbgStep).toNat
        else 0) ∧
      (idx = 4 → t.acc.toNat = if s.par.hasInt then s.ia.toNat else 0) ∧
      (idx = 5 → t.acc = if s.par.hasGpr then s.gpr1 else 0) ∧
      (idx = 6 → t.acc = if s.par.hasGpr then s.gpr2 else 0) ∧
      (idx = 7 → t.acc = if s.par.hasGpr then s.gpr3 else 0) ∧
      (idx = 8 → t.acc = s.par.cpuid) ∧
      (9 ≤ idx.toNat → t.acc = 0) ∧
      t = { s with acc := t.acc, xopp := false, cmpp := false, z := false } ∧
      KeepsMemory s t

/-- CSRST writes the CSR of its index, all sixteen: plain fields, write-one-to-clear pending bits, ignored
writes, and nothing else (46_csr_access.md, the write function; 10_state.md section 6; decisions D21, D22,
D24, D31). That CSR9 to CSR15 ignore the write, and are not refused, is the model's choice
(notes/assumptions/13.md). -/
def Obligations.CsrWriteFunction : Prop :=
  ∀ (s : State) (idx : Nibble), s.linkMode ≠ none →
    ∃ t, exec (.csrst idx) s = .next t ∧
      (idx = 0 → t = { s with
        cfg := s.acc.setWidth 8, xopp := false, cmpp := false, z := false }) ∧
      (idx = 1 → t = { s with
        timer := if s.par.hasTimer then s.acc else s.timer,
        xopp := false, cmpp := false, z := false }) ∧
      (idx = 2 → t = { s with
        timerCmp := if s.par.hasTimerCmp then s.acc else s.timerCmp,
        xopp := false, cmpp := false, z := false }) ∧
      (idx = 3 → s.par.hasInt = true → t = { s with
        swIE := s.acc.getLsbD 0, extIE := s.acc.getLsbD 1,
        tIE := s.par.hasTimerCmp && s.acc.getLsbD 2, wdog := s.par.hasTimerCmp && s.acc.getLsbD 7,
        extP := s.extP && !s.acc.getLsbD 9, tP := s.tP && !s.acc.getLsbD 10,
        swP := s.swP && !s.acc.getLsbD 11,
        dbgStep := if s.par.hasDbg then s.acc.getLsbD 12 else s.dbgStep,
        xopp := false, cmpp := false, z := false }) ∧
      (idx = 3 → s.par.hasInt = false → t = { s with xopp := false, cmpp := false, z := false }) ∧
      (idx = 4 → t = { s with
        ia := if s.par.hasInt then s.acc.setWidth 8 else s.ia,
        xopp := false, cmpp := false, z := false }) ∧
      (idx = 5 → t = { s with
        gpr1 := if s.par.hasGpr then s.acc else s.gpr1, xopp := false, cmpp := false, z := false }) ∧
      (idx = 6 → t = { s with
        gpr2 := if s.par.hasGpr then s.acc else s.gpr2, xopp := false, cmpp := false, z := false }) ∧
      (idx = 7 → t = { s with
        gpr3 := if s.par.hasGpr then s.acc else s.gpr3, xopp := false, cmpp := false, z := false }) ∧
      (8 ≤ idx.toNat → t = { s with xopp := false, cmpp := false, z := false }) ∧
      KeepsMemory s t

/-- CPUID reads as the constant of the configuration, and writes to it are ignored (10_state.md R52). -/
def Obligations.CpuidIsConstant : Prop :=
  ∀ s : State, s.linkMode ≠ none →
    exec (.csrld 8) s =
      .next { s with acc := s.par.cpuid, xopp := false, cmpp := false, z := false } ∧
    exec (.csrst 8) s = .next { s with xopp := false, cmpp := false, z := false }

/-! ### MAD profile -/

/-- MAD under both readings of the accumulation: the value of ACC, the carry, and nothing else
(48_mad_profile.md, MAD; decision D29; the signed reading of the wrapped sum is notes/assumptions/16.md;
NV_RULE as in NvRuleOpensFlags). -/
def Obligations.MadResult : Prop :=
  ∀ (s : State) (shift : MadShift) (sat : Bool) (lane : Lane) (o1 o2 : Byte) (k : Nat)
      (p a sum q : Int),
    s.linkMode ≠ none →
    o1 = (if lane = .high then s.rs0.extractLsb' 8 8 else s.rs0.extractLsb' 0 8) →
    o2 = (if lane = .high then s.rs1.extractLsb' 8 8 else s.rs1.extractLsb' 0 8) →
    k = (match shift with | .by0 => 0 | .by1 => 1 | .by2 => 2 | .by4 => 4) →
    p = (if s.cfg.getLsbD 2 then o1.toInt * o2.toInt else o1.toNat * o2.toNat) →
    a = (if s.cfg.getLsbD 2 then s.acc.toInt else s.acc.toNat) →
    sum = (match s.par.madFn with
      | .exactSum => a + p
      | .wrapFirst => if s.cfg.getLsbD 2 then (BitVec.ofInt 16 (a + p)).toInt
          else (BitVec.ofInt 16 (a + p)).toNat) →
    q * 2 ^ k ≤ sum → sum < (q + 1) * 2 ^ k →
      ∃ t, exec (.mad shift sat lane) s = .next t.applyNvRule ∧
        t.acc = BitVec.ofInt 16
          (if sat = false then q
          else if s.cfg.getLsbD 2 then min (max q (-32768)) 32767 else min (max q 0) 65535) ∧
        (t.c = true ↔ 65536 ≤ s.acc.toNat + (BitVec.ofInt 16 p).toNat) ∧
        t = { s with acc := t.acc, c := t.c, xopp := false, cmpp := false, z := false } ∧
        KeepsMemory s t

/-- MAX and MIN on the full 16-bit value, in the signedness of CFG.SIGN, with the flags unchanged
(48_mad_profile.md, MAX and MIN; decision D30; NV_RULE as in NvRuleOpensFlags). -/
def Obligations.MaxMinResult : Prop :=
  ∀ s : State, s.linkMode ≠ none →
    (∃ t, exec .max_ s = .next t.applyNvRule ∧
      (s.cfg.getLsbD 2 = true → t.acc.toInt = max s.acc.toInt s.rs0.toInt) ∧
      (s.cfg.getLsbD 2 = false → t.acc.toNat = max s.acc.toNat s.rs0.toNat) ∧
      t = { s with acc := t.acc, xopp := false, cmpp := false, z := false } ∧ KeepsMemory s t) ∧
    (∃ t, exec .min_ s = .next t.applyNvRule ∧
      (s.cfg.getLsbD 2 = true → t.acc.toInt = min s.acc.toInt s.rs0.toInt) ∧
      (s.cfg.getLsbD 2 = false → t.acc.toNat = min s.acc.toNat s.rs0.toNat) ∧
      t = { s with acc := t.acc, xopp := false, cmpp := false, z := false } ∧ KeepsMemory s t)

/-! ### Timer, watchdog, single step -/

/-- In `retired` mode TIMER counts the instruction just retired, after its own effects; the match is a
transition to equality by that increment, sets T_P, and no other field changes but SW_P when single step
was armed before the fetch (60_exceptions.md sections 4, 8, 9; decisions D24, D32). It holds unless the
watchdog is on and the count matches (WatchdogMatchResets). `u` is the state the instruction leaves. That
a match sets no T_P without the Interrupt Profile is the model's reading of R345
(notes/assumptions/20.md). -/
def Obligations.TimerCountsRetiredInstructions : Prop :=
  ∀ (s u : State) (m : LinkMode),
    s.env = [] → s.linkMode = some m → s.sleep = false → s.takesInterrupt = false →
    exec (s.currentInstr m) (State.advanceBy (s.currentInstr m).nibbles s) = .next u →
    u.par.hasTimer = true → u.par.timerMode = .retired →
    (u.wdog = false ∨ u.par.hasTimerCmp = false ∨ u.timer + 1 ≠ u.timerCmp) →
      step s = .next
        { u with
          timer := u.timer + 1,
          tP := u.tP || (u.par.hasInt && u.par.hasTimerCmp && u.timer + 1 == u.timerCmp),
          swP := u.swP || (s.par.hasDbg && s.dbgStep && s.cfg.getLsbD 4 && !s.inIsr) }

/-- A match with WDOG = 1 resets the core and keeps memory (60_exceptions.md R371, R372; decisions D32,
D33). Where single step was armed, SW_P is set after the reset by the line order of R348, or, under the
model's parameter `stepAtReset`, is 0 as 70_reset_and_hazards.md R390 and R392 have it
(notes/assumptions/10.md). The values are those of ResetImageIsZero. -/
def Obligations.WatchdogMatchResets : Prop :=
  ∀ (s u : State) (m : LinkMode),
    s.env = [] → s.linkMode = some m → s.sleep = false → s.takesInterrupt = false →
    exec (s.currentInstr m) (State.advanceBy (s.currentInstr m).nibbles s) = .next u →
    u.par.hasTimer = true → u.par.timerMode = .retired → u.par.hasTimerCmp = true →
    u.wdog = true → u.timer + 1 = u.timerCmp →
      step s = .next
        { State.powerOn u.par with
          mem := u.mem, env := u.env, draws := u.draws,
          swP := u.par.stepAtReset == .follows &&
            (s.par.hasDbg && s.dbgStep && s.cfg.getLsbD 4 && !s.inIsr) }

/-- In `cycle` mode every step, one that retires an instruction, takes an interrupt or sleeps, makes
`Config.cycleTicks u.draws + 1` increments: a free number, at least one (60_exceptions.md R370;
93_implementation_defined.md U6; notes/assumptions/6.md, 8.md). A match by any of them sets T_P, or with
WDOG = 1 resets the core and ends the increments (R371, R372; notes/assumptions/9.md, 20.md; for SW_P
notes/assumptions/10.md). `u` is the state before the increments. -/
def Obligations.CycleTimerAdvances : Prop :=
  ∀ (s u : State) (m : LinkMode) (armed matched : Bool) (k : Nat),
    s.env = [] → s.linkMode = some m →
    ((s.staysAsleep = true ∧ u = s ∧ armed = false) ∨
      (s.staysAsleep = false ∧ s.awaken.takesInterrupt = true ∧ u = trapEntry s.awaken ∧
        armed = false) ∨
      (s.staysAsleep = false ∧ s.awaken.takesInterrupt = false ∧
        exec (s.awaken.currentInstr m)
          (State.advanceBy (s.awaken.currentInstr m).nibbles s.awaken) = .next u ∧
        armed = (s.par.hasDbg && s.dbgStep && s.cfg.getLsbD 4 && !s.inIsr))) →
    u.par.hasTimer = true → u.par.timerMode = .cycle → k = Config.cycleTicks u.draws + 1 →
    (matched = true ↔ u.par.hasTimerCmp = true ∧
      ∃ j, 1 ≤ j ∧ j ≤ k ∧ u.timer + BitVec.ofNat 16 j = u.timerCmp) →
      ((u.wdog && matched) = false →
        step s = .next
          { u with
            timer := u.timer + BitVec.ofNat 16 k, tP := u.tP || (u.par.hasInt && matched),
            swP := u.swP || armed, draws := u.draws + 1 }) ∧
      ((u.wdog && matched) = true →
        step s = .next
          { State.powerOn u.par with
            mem := u.mem, env := u.env, draws := u.draws + 1,
            swP := u.par.stepAtReset == .follows && armed })

/-- Without the timer, a step ends with the instruction's own state, and with SW_P set exactly when single
step was armed before the fetch (60_exceptions.md R375; decision D24). -/
def Obligations.SingleStepRequestsTrap : Prop :=
  ∀ (s u : State) (m : LinkMode),
    s.env = [] → s.linkMode = some m → s.sleep = false → s.takesInterrupt = false →
    exec (s.currentInstr m) (State.advanceBy (s.currentInstr m).nibbles s) = .next u →
    u.par.hasTimer = false →
      step s = .next
        { u with
          swP := u.swP || (s.par.hasDbg && s.dbgStep && s.cfg.getLsbD 4 && !s.inIsr) }

/-! ### Reset -/

/-- CFG is 0x00 after reset: carry-in off, imm4 branches, scale 1, interrupts off, register operands,
unsigned, UL (10_state.md R59). -/
def Obligations.ResetCfg : Prop :=
  State.reset.cfg = 0x00 ∧ State.reset.ci = false ∧ State.reset.cfg.getLsbD 6 = false ∧
  State.reset.brs = false ∧ State.reset.ie = false ∧ State.reset.cfg.getLsbD 3 = false ∧
  State.reset.sign = false ∧ State.reset.linkMode = some .ul

/-- Everything else is zero after reset and execution starts at 0x0000, phase 0: the spec's reading of the
figure, decision D25 (10_state.md section 9, notes/assumptions/5.md). With another RESET_IMAGE the registers
it lists take its values, where their profile is present, and the rest is zero all the same
(93_implementation_defined.md U11, notes/assumptions/22.md); memory is MEM_INIT. -/
def Obligations.ResetImageIsZero : Prop :=
  (∀ r, r = State.reset →
    r.acc = 0 ∧ r.rs0 = 0 ∧ r.rs1 = 0 ∧ r.ra0 = 0 ∧ r.ra1 = 0 ∧ r.pc = 0 ∧ r.nib = false ∧
    r.c = false ∧ r.z = false ∧ r.n = false ∧ r.v = false ∧ r.cmpp = false ∧ r.xopp = false ∧
    r.ia = 0 ∧ r.iar = 0 ∧ r.sleep = false ∧ r.intctrl = 0 ∧ r.timer = 0 ∧ r.timerCmp = 0 ∧
    r.gpr1 = 0 ∧ r.gpr2 = 0 ∧ r.gpr3 = 0) ∧
  ∀ (p : Config) (r : State) (im : ResetImage), r = State.powerOn p → im = p.resetImage →
    r.acc = im.acc ∧ r.rs0 = im.rs0 ∧ r.rs1 = im.rs1 ∧ r.ra0 = im.ra0 ∧ r.ra1 = im.ra1 ∧
    r.c = im.c ∧ r.n = im.n ∧ r.v = im.v ∧
    r.ia = (if p.hasInt then im.ia else 0) ∧ r.iar = (if p.hasInt then im.iar else 0) ∧
    r.swIE = (p.hasInt && im.swIE) ∧ r.extIE = (p.hasInt && im.extIE) ∧
    r.tIE = (p.hasInt && p.hasTimerCmp && im.tIE) ∧
    r.timer = (if p.hasTimer then im.timer else 0) ∧
    r.timerCmp = (if p.hasTimerCmp then im.timerCmp else 0) ∧
    r.gpr1 = (if p.hasGpr then im.gpr1 else 0) ∧ r.gpr2 = (if p.hasGpr then im.gpr2 else 0) ∧
    r.gpr3 = (if p.hasGpr then im.gpr3 else 0) ∧
    r.cfg = 0 ∧ r.pc = 0 ∧ r.nib = false ∧ r.z = false ∧ r.cmpp = false ∧ r.xopp = false ∧
    r.sleep = false ∧ r.wdog = false ∧ r.inIsr = false ∧ r.extP = false ∧ r.tP = false ∧
    r.swP = false ∧ r.dbgStep = false ∧ r.mem = p.memInit ∧ r.par = p

/-! ### The whole machine -/

/-- Which instructions can write each register, each stored bit of INTCTRL, the fetch position and memory:
no other instruction does (10_state.md sections 1 to 6, 20_memory.md section 1; decisions D34, D36). The
flags are OnlyListedInstructionsWriteFlags, the sequencing bits CompletionClearsSequencingState. -/
def Obligations.OnlyListedInstructionsWrite : Prop :=
  ∀ (i : Instr) (s t : State), exec i s = .next t →
    (t.acc = s.acc ∨
      i ∈ [Instr.add, .sub, .inc, .dec, .and_, .or_, .xor_, .inv, .shl, .shr, .racc, .ss, .sa, .max_,
        .min_] ∨
      (∃ imm, i ∈ [Instr.addi4 imm, .subi4 imm, .andi4 imm, .ori4 imm, .xori4 imm, .ldi4 imm,
        .csrld imm]) ∨
      (∃ imm, i ∈ [Instr.addi8 imm, .subi8 imm, .andi8 imm, .ori8 imm, .xori8 imm, .ldi8 imm]) ∨
      (∃ post d ar, i = .xmem .load post d ar) ∨ ∃ sh sat lane, i = .mad sh sat lane) ∧
    (t.rs0 = s.rs0 ∨ i = .rss ∨ i = .ss ∨ i = .rrs) ∧
    (t.rs1 = s.rs1 ∨ i = .rss) ∧
    (t.ra0 = s.ra0 ∨ i = .rsa ∨ i = .sa ∨ ∃ op d, i = .xmem op true d .ra0) ∧
    (t.ra1 = s.ra1 ∨ i = .rsa ∨ i = .jal ∨ i = .reti ∨ ∃ op d, i = .xmem op true d .ra1) ∧
    (t.cfg = s.cfg ∨ (∃ imm, i = .cfg imm) ∨ i = .csrst 0 ∨ i = .reti) ∧
    ((t.pc = s.pc ∧ t.nib = s.nib) ∨ i = .jal ∨ i = .jmp ∨ i = .reti ∨
      (∃ imm, i = .beqz4 imm ∨ i = .bc4 imm) ∨ ∃ imm, i = .beqz8 imm ∨ i = .bc8 imm) ∧
    (t.ia = s.ia ∨ i = .csrst 4 ∨ i = .reti) ∧
    (t.iar = s.iar ∨ i = .reti) ∧
    (t.inIsr = s.inIsr ∨ i = .reti) ∧
    (t.sleep = s.sleep ∨ i = .wfi) ∧
    (t.timer = s.timer ∨ i = .csrst 1) ∧
    (t.timerCmp = s.timerCmp ∨ i = .csrst 2) ∧
    ((t.swIE = s.swIE ∧ t.extIE = s.extIE ∧ t.tIE = s.tIE ∧ t.wdog = s.wdog ∧
      t.dbgStep = s.dbgStep ∧ t.extP = s.extP ∧ t.tP = s.tP) ∨ i = .csrst 3) ∧
    (t.swP = s.swP ∨ i = .swi ∨ i = .csrst 3) ∧
    (t.gpr1 = s.gpr1 ∨ i = .csrst 5) ∧ (t.gpr2 = s.gpr2 ∨ i = .csrst 6) ∧
    (t.gpr3 = s.gpr3 ∨ i = .csrst 7) ∧
    (t.mem = s.mem ∨ ∃ post d ar, i = .xmem .store post d ar) ∧
    (t.draws = s.draws ∨ (s.par.nvRule = .anyAfterAlu ∧ isAlu i = true)) ∧
    t.par = s.par ∧ t.env = s.env

/-- Which instructions can write C, N and V (10_state.md section 4; decisions D11, D34): N and V by the
default NV_RULE only those listed; under its alternative every ALU instruction
(93_implementation_defined.md U7, notes/assumptions/2.md). -/
def Obligations.OnlyListedInstructionsWriteFlags : Prop :=
  ∀ (i : Instr) (s t : State), exec i s = .next t →
    ((t.n = s.n ∧ t.v = s.v) ∨ i = .inc ∨ i = .dec ∨ i = .cmp ∨ i = .reti ∨ i = .add ∨ i = .sub ∨
      (∃ imm, i = .addi4 imm ∨ i = .subi4 imm) ∨ (∃ imm, i = .addi8 imm ∨ i = .subi8 imm) ∨
      (s.par.nvRule = .anyAfterAlu ∧ isAlu i = true)) ∧
    (t.c = s.c ∨ i = .inc ∨ i = .dec ∨ i = .cmp ∨ i = .reti ∨ i = .add ∨ i = .sub ∨ i = .shl ∨
      i = .shr ∨ i = .btst ∨ i = .tst ∨ i = .clc ∨ (∃ sh sat lane, i = .mad sh sat lane) ∨
      (∃ imm, i = .addi4 imm ∨ i = .subi4 imm ∨ i = .btsti4 imm ∨ i = .tsti4 imm) ∨
      ∃ imm, i = .addi8 imm ∨ i = .subi8 imm ∨ i = .btsti8 imm ∨ i = .tsti8 imm)

/-- The common completion, for every instruction: XOPP lives for one instruction, Z and CMPP live for one
instruction after a CMP (40_arithmetic.md opening section; 10_state.md section 4; decision D10). -/
def Obligations.CompletionClearsSequencingState : Prop :=
  ∀ (i : Instr) (s t : State), exec i s = .next t →
    (t.xopp = true ↔ i = .xop) ∧ (t.cmpp = true ↔ i = .cmp) ∧ (t.z = true → i = .cmp)

/-- With a defined link mode and the default treatment of reserved opcodes, every step has a next state: no
instruction and no memory access can fail (60_exceptions.md section 1, 20_memory.md R83; the no-op is the
default of decision D16). -/
def Obligations.StepAlwaysContinues : Prop :=
  ∀ s : State, s.linkMode ≠ none → s.par.rsvBehaviour = .noOp → ∃ t, step s = .next t

/-- CFG.W = 0b11 without the MAD profile has no behaviour: no instruction runs and no step is taken
(10_state.md R33; decision D17). -/
def Obligations.ReservedLinkModeStops : Prop :=
  ∀ s : State, s.par.hasMad = false → s.cfg.getLsbD 0 = true → s.cfg.getLsbD 1 = true →
    (∀ i, exec i s = .refused .reservedLinkMode) ∧
    (s.env = [] → step s = .refused .reservedLinkMode)

/-- No step changes the configuration record (10_state.md R58, the record is no state of the core; holding
it in State is the model's choice, notes/assumptions/1.md). -/
def Obligations.StepKeepsConfiguration : Prop :=
  ∀ s t : State, step s = .next t → t.par = s.par

/-- The invariant holds at reset, and at power-on with any parameters that obey their dependencies and any
memory in canonical form (10_state.md section 9; the memory's form is the model's,
notes/assumptions/4.md). -/
def Obligations.InvariantAtReset : Prop :=
  State.reset.Inv ∧
  ∀ p : Config, p.valid = true → Memory.wf p.memInit = true → (State.powerOn p).Inv

/-- Every step keeps the invariant: canonical memory, Z only after CMP, CMP and XOP never pending together,
a sleeping core has neither pending, the parameters' dependencies, and what an absent profile's registers
hold (10_state.md sections 4 to 7, 60_exceptions.md R345; decision D10; the memory's form is
notes/assumptions/4.md). -/
def Obligations.StepKeepsInvariant : Prop :=
  ∀ s t : State, s.Inv → step s = .next t → t.Inv

/-- NV_RULE: by default it changes nothing; under the conservative alternative N and V are the next draw of
the free values after an ALU instruction, and every other effect of every instruction is the same
(00_scope.md R8, 93_implementation_defined.md U7; which instructions these are is the model's reading,
notes/assumptions/2.md; the free values and their draws are notes/assumptions/23.md). -/
def Obligations.NvRuleOpensFlags : Prop :=
  (∀ t : State, t.par.nvRule = .arithmetic → t.applyNvRule = t) ∧
  (∀ t : State, t.par.nvRule = .anyAfterAlu →
    t.applyNvRule =
      { t with n := Config.freeN t.draws, v := Config.freeV t.draws, draws := t.draws + 1 }) ∧
  ∀ (i : Instr) (s t : State) (p : Config), s.par.nvRule = .arithmetic →
    p = { s.par with nvRule := .anyAfterAlu } → exec i s = .next t →
      exec i { s with par := p } =
        .next (if isAlu i then State.applyNvRule { t with par := p } else { t with par := p })
end

