-- ==== Sys2Proof/Laws/Memory.lean ====
section
/-! SUPPORT. The laws of memory: what a read gives after a write, and that every memory operation keeps
the canonical form. -/

namespace Sys2Proof.Machine

theorem lookupByte_insertByte (m : Memory) (a b : Nat) (v : Byte) :
    wfFrom lo m = true → lookupByte (insertByte m a v) b = if b = a then v else lookupByte m b := by
  induction m generalizing lo with
  | nil =>
    intro _
    simp only [insertByte]
    by_cases hv : v = initByte
    · rw [if_pos hv]
      by_cases hb : b = a
      · rw [if_pos hb, hv]; rfl
      · rw [if_neg hb]
    · rw [if_neg hv]
      by_cases hb : b = a
      · simp only [lookupByte, if_pos hb, if_pos hb.symm]
      · simp only [lookupByte, if_neg hb, if_neg (Ne.symm hb)]
  | cons kb rest ih =>
    obtain ⟨k, x⟩ := kb
    intro h
    simp only [wfFrom, Bool.and_eq_true, decide_eq_true_eq] at h
    have hgt : ∀ (r : Memory) (l c : Nat), wfFrom l r = true → c < l → lookupByte r c = initByte := by
      intro r
      induction r with
      | nil => intros; rfl
      | cons e r ihr =>
        obtain ⟨k', y⟩ := e
        intro l c hw hc
        simp only [wfFrom, Bool.and_eq_true, decide_eq_true_eq] at hw
        simp only [lookupByte]
        rw [if_neg (by omega)]
        exact ihr (k' + 1) c hw.2 (by omega)
    simp only [insertByte]
    by_cases h1 : a < k
    · rw [if_pos h1]
      have ha : lookupByte rest a = initByte := hgt rest (k + 1) a h.2 (by omega)
      by_cases hv : v = initByte
      · rw [if_pos hv]
        by_cases hb : b = a
        · subst hb; simp only [lookupByte, if_true]
          rw [if_neg (by omega), ha, hv]
        · rw [if_neg hb]
      · rw [if_neg hv]
        by_cases hb : b = a
        · subst hb; simp [lookupByte]
        · simp only [lookupByte, if_neg hb, if_neg (Ne.symm hb)]
    · rw [if_neg h1]
      by_cases h2 : a = k
      · subst h2
        rw [if_pos rfl]
        by_cases hv : v = initByte
        · rw [if_pos hv]
          by_cases hb : b = a
          · subst hb; rw [if_pos rfl, hgt rest (b + 1) b h.2 (by omega), hv]
          · simp only [lookupByte, if_neg hb, if_neg (Ne.symm hb)]
        · rw [if_neg hv]
          by_cases hb : b = a
          · subst hb; simp [lookupByte]
          · simp only [lookupByte, if_neg hb, if_neg (Ne.symm hb)]
      · rw [if_neg h2]
        simp only [lookupByte]
        by_cases hb : k = b
        · subst hb; simp [Ne.symm h2]
        · rw [if_neg hb, if_neg hb]
          exact ih h.2

theorem wfFrom_insertByte (m : Memory) (lo a : Nat) (v : Byte) (hlo : lo ≤ a) (ha : a < 65536)
    (h : wfFrom lo m = true) : wfFrom lo (insertByte m a v) = true := by
  induction m generalizing lo with
  | nil => by_cases hv : v = initByte <;> simp_all [insertByte, wfFrom]
  | cons kb rest ih =>
    obtain ⟨k, x⟩ := kb
    have h' := h
    simp only [wfFrom, Bool.and_eq_true, decide_eq_true_eq] at h'
    obtain ⟨⟨⟨h1, h2⟩, h3⟩, h4⟩ := h'
    simp only [insertByte]
    by_cases c1 : a < k
    · rw [if_pos c1]
      by_cases hv : v = initByte
      · rw [if_pos hv]; exact h
      · rw [if_neg hv]; simp_all [wfFrom]
    · rw [if_neg c1]
      by_cases c2 : a = k
      · rw [if_pos c2]
        by_cases hv : v = initByte
        · rw [if_pos hv]
          have weaken : ∀ (r : Memory) (l l' : Nat), l ≤ l' → wfFrom l' r = true → wfFrom l r = true := by
            intro r l l' hl hr
            cases r with
            | nil => rfl
            | cons e r => simp_all [wfFrom]; omega
          exact weaken rest lo (k + 1) (by omega) h4
        · rw [if_neg hv]; simp_all [wfFrom]
      · rw [if_neg c2]
        have := ih (k + 1) (by omega) h4
        simp_all [wfFrom]

/-- A read after a write: the byte written at its address, the old byte elsewhere. -/
theorem read_write (m : Memory) (a b : Half) (v : Byte) (h : m.wf = true) :
    (m.write a v).read b = if b = a then v else m.read b := by
  simp only [Memory.read, Memory.write, lookupByte_insertByte m a.toNat b.toNat v h,
    ← BitVec.toNat_inj]

theorem read_write_same (m : Memory) (a : Half) (v : Byte) (h : m.wf = true) :
    (m.write a v).read a = v := by
  rw [read_write m a a v h, if_pos rfl]

theorem read_write_other (m : Memory) (a b : Half) (v : Byte) (h : m.wf = true) (hb : b ≠ a) :
    (m.write a v).read b = m.read b := by
  rw [read_write m a b v h, if_neg hb]

theorem write_wf (m : Memory) (a : Half) (v : Byte) (h : m.wf = true) : (m.write a v).wf = true :=
  wfFrom_insertByte m 0 a.toNat v (Nat.zero_le _) a.isLt h

theorem write16_wf (m : Memory) (a v : Half) (h : m.wf = true) : (m.write16 a v).wf = true :=
  write_wf _ _ _ (write_wf _ _ _ h)

theorem writeBytes_wf (bs : List Byte) (m : Memory) (a : Half) (h : m.wf = true) :
    (m.writeBytes a bs).wf = true := by
  induction bs generalizing m a with
  | nil => exact h
  | cons b bs ih => exact ih _ _ (write_wf _ _ _ h)

/-- A read after a 16-bit write. -/
theorem read_write16 (m : Memory) (a b v : Half) (h : m.wf = true) :
    (m.write16 a v).read b =
      if b = a + 1 then highByte v else if b = a then lowByte v else m.read b := by
  simp only [Memory.write16, read_write _ _ _ _ (write_wf m a _ h), read_write m a b _ h]

/-- A read after a run of bytes was written: the byte of the run at that distance from its start, the old
byte elsewhere. -/
theorem read_writeBytes (bs : List Byte) (m : Memory) (a b : Half) (h : m.wf = true)
    (hl : bs.length ≤ 65536) :
    (m.writeBytes a bs).read b = (bs[(b - a).toNat]?).getD (m.read b) := by
  induction bs generalizing m a with
  | nil => simp [Memory.writeBytes]
  | cons x bs ih =>
    simp only [List.length_cons] at hl
    simp only [Memory.writeBytes]
    rw [ih _ _ (write_wf _ _ _ h) (by omega), read_write m a b x h]
    by_cases hb : b = a
    · subst hb
      have h0 : (b - (b + 1)).toNat = 65535 := by
        have : b - (b + 1) = 65535#16 := by bv_omega
        rw [this]; rfl
      have hz : (b - b).toNat = 0 := by simp
      rw [h0, hz, if_pos rfl, List.getElem?_eq_none (by omega)]
      simp
    · have hs : (b - a).toNat = (b - (a + 1)).toNat + 1 := by
        have : b - a ≠ 0#16 := by
          intro h; apply hb; bv_omega
        have h2 : b - (a + 1) = (b - a) - 1 := by bv_omega
        rw [h2]; bv_omega
      rw [if_neg hb, hs, List.getElem?_cons_succ]

end Sys2Proof.Machine
end

