-- ==== Sys2Proof/Laws/State.lean ====
section
/-! SUPPORT. One lemma for each field under each update of the state, so that no proof unfolds an update.
Then the laws of the parts of a register. -/

namespace Sys2Proof.Machine

section complete
variable (s : State)

@[simp] theorem complete_par : (complete s).par = s.par := rfl
@[simp] theorem complete_acc : (complete s).acc = s.acc := rfl
@[simp] theorem complete_rs0 : (complete s).rs0 = s.rs0 := rfl
@[simp] theorem complete_rs1 : (complete s).rs1 = s.rs1 := rfl
@[simp] theorem complete_ra0 : (complete s).ra0 = s.ra0 := rfl
@[simp] theorem complete_ra1 : (complete s).ra1 = s.ra1 := rfl
@[simp] theorem complete_pc : (complete s).pc = s.pc := rfl
@[simp] theorem complete_nib : (complete s).nib = s.nib := rfl
@[simp] theorem complete_cfg : (complete s).cfg = s.cfg := rfl
@[simp] theorem complete_c : (complete s).c = s.c := rfl
@[simp] theorem complete_z : (complete s).z = false := rfl
@[simp] theorem complete_n : (complete s).n = s.n := rfl
@[simp] theorem complete_v : (complete s).v = s.v := rfl
@[simp] theorem complete_cmpp : (complete s).cmpp = false := rfl
@[simp] theorem complete_xopp : (complete s).xopp = false := rfl
@[simp] theorem complete_ia : (complete s).ia = s.ia := rfl
@[simp] theorem complete_iar : (complete s).iar = s.iar := rfl
@[simp] theorem complete_sleep : (complete s).sleep = s.sleep := rfl
@[simp] theorem complete_swIE : (complete s).swIE = s.swIE := rfl
@[simp] theorem complete_extIE : (complete s).extIE = s.extIE := rfl
@[simp] theorem complete_tIE : (complete s).tIE = s.tIE := rfl
@[simp] theorem complete_wdog : (complete s).wdog = s.wdog := rfl
@[simp] theorem complete_inIsr : (complete s).inIsr = s.inIsr := rfl
@[simp] theorem complete_extP : (complete s).extP = s.extP := rfl
@[simp] theorem complete_tP : (complete s).tP = s.tP := rfl
@[simp] theorem complete_swP : (complete s).swP = s.swP := rfl
@[simp] theorem complete_dbgStep : (complete s).dbgStep = s.dbgStep := rfl
@[simp] theorem complete_timer : (complete s).timer = s.timer := rfl
@[simp] theorem complete_timerCmp : (complete s).timerCmp = s.timerCmp := rfl
@[simp] theorem complete_gpr1 : (complete s).gpr1 = s.gpr1 := rfl
@[simp] theorem complete_gpr2 : (complete s).gpr2 = s.gpr2 := rfl
@[simp] theorem complete_gpr3 : (complete s).gpr3 = s.gpr3 := rfl
@[simp] theorem complete_mem : (complete s).mem = s.mem := rfl
@[simp] theorem complete_env : (complete s).env = s.env := rfl
@[simp] theorem complete_draws : (complete s).draws = s.draws := rfl

end complete

section setActive
variable (s : State)

@[simp] theorem setActive_par (m : LinkMode) (x : Nat) : (s.setActive m x).par = s.par := rfl
@[simp] theorem setActive_acc (m : LinkMode) (x : Nat) : (s.setActive m x).acc = putLow (width m) s.acc x := rfl
@[simp] theorem setActive_rs0 (m : LinkMode) (x : Nat) : (s.setActive m x).rs0 = s.rs0 := rfl
@[simp] theorem setActive_rs1 (m : LinkMode) (x : Nat) : (s.setActive m x).rs1 = s.rs1 := rfl
@[simp] theorem setActive_ra0 (m : LinkMode) (x : Nat) : (s.setActive m x).ra0 = s.ra0 := rfl
@[simp] theorem setActive_ra1 (m : LinkMode) (x : Nat) : (s.setActive m x).ra1 = s.ra1 := rfl
@[simp] theorem setActive_pc (m : LinkMode) (x : Nat) : (s.setActive m x).pc = s.pc := rfl
@[simp] theorem setActive_nib (m : LinkMode) (x : Nat) : (s.setActive m x).nib = s.nib := rfl
@[simp] theorem setActive_cfg (m : LinkMode) (x : Nat) : (s.setActive m x).cfg = s.cfg := rfl
@[simp] theorem setActive_c (m : LinkMode) (x : Nat) : (s.setActive m x).c = s.c := rfl
@[simp] theorem setActive_z (m : LinkMode) (x : Nat) : (s.setActive m x).z = s.z := rfl
@[simp] theorem setActive_n (m : LinkMode) (x : Nat) : (s.setActive m x).n = s.n := rfl
@[simp] theorem setActive_v (m : LinkMode) (x : Nat) : (s.setActive m x).v = s.v := rfl
@[simp] theorem setActive_cmpp (m : LinkMode) (x : Nat) : (s.setActive m x).cmpp = s.cmpp := rfl
@[simp] theorem setActive_xopp (m : LinkMode) (x : Nat) : (s.setActive m x).xopp = s.xopp := rfl
@[simp] theorem setActive_ia (m : LinkMode) (x : Nat) : (s.setActive m x).ia = s.ia := rfl
@[simp] theorem setActive_iar (m : LinkMode) (x : Nat) : (s.setActive m x).iar = s.iar := rfl
@[simp] theorem setActive_sleep (m : LinkMode) (x : Nat) : (s.setActive m x).sleep = s.sleep := rfl
@[simp] theorem setActive_swIE (m : LinkMode) (x : Nat) : (s.setActive m x).swIE = s.swIE := rfl
@[simp] theorem setActive_extIE (m : LinkMode) (x : Nat) : (s.setActive m x).extIE = s.extIE := rfl
@[simp] theorem setActive_tIE (m : LinkMode) (x : Nat) : (s.setActive m x).tIE = s.tIE := rfl
@[simp] theorem setActive_wdog (m : LinkMode) (x : Nat) : (s.setActive m x).wdog = s.wdog := rfl
@[simp] theorem setActive_inIsr (m : LinkMode) (x : Nat) : (s.setActive m x).inIsr = s.inIsr := rfl
@[simp] theorem setActive_extP (m : LinkMode) (x : Nat) : (s.setActive m x).extP = s.extP := rfl
@[simp] theorem setActive_tP (m : LinkMode) (x : Nat) : (s.setActive m x).tP = s.tP := rfl
@[simp] theorem setActive_swP (m : LinkMode) (x : Nat) : (s.setActive m x).swP = s.swP := rfl
@[simp] theorem setActive_dbgStep (m : LinkMode) (x : Nat) : (s.setActive m x).dbgStep = s.dbgStep := rfl
@[simp] theorem setActive_timer (m : LinkMode) (x : Nat) : (s.setActive m x).timer = s.timer := rfl
@[simp] theorem setActive_timerCmp (m : LinkMode) (x : Nat) : (s.setActive m x).timerCmp = s.timerCmp := rfl
@[simp] theorem setActive_gpr1 (m : LinkMode) (x : Nat) : (s.setActive m x).gpr1 = s.gpr1 := rfl
@[simp] theorem setActive_gpr2 (m : LinkMode) (x : Nat) : (s.setActive m x).gpr2 = s.gpr2 := rfl
@[simp] theorem setActive_gpr3 (m : LinkMode) (x : Nat) : (s.setActive m x).gpr3 = s.gpr3 := rfl
@[simp] theorem setActive_mem (m : LinkMode) (x : Nat) : (s.setActive m x).mem = s.mem := rfl
@[simp] theorem setActive_env (m : LinkMode) (x : Nat) : (s.setActive m x).env = s.env := rfl
@[simp] theorem setActive_draws (m : LinkMode) (x : Nat) : (s.setActive m x).draws = s.draws := rfl

end setActive

section setArith
variable (s : State)

@[simp] theorem setArith_par (m : LinkMode) (r : AluResult) : (s.setArith m r).par = s.par := rfl
@[simp] theorem setArith_acc (m : LinkMode) (r : AluResult) : (s.setArith m r).acc = putLow (width m) s.acc r.value := rfl
@[simp] theorem setArith_rs0 (m : LinkMode) (r : AluResult) : (s.setArith m r).rs0 = s.rs0 := rfl
@[simp] theorem setArith_rs1 (m : LinkMode) (r : AluResult) : (s.setArith m r).rs1 = s.rs1 := rfl
@[simp] theorem setArith_ra0 (m : LinkMode) (r : AluResult) : (s.setArith m r).ra0 = s.ra0 := rfl
@[simp] theorem setArith_ra1 (m : LinkMode) (r : AluResult) : (s.setArith m r).ra1 = s.ra1 := rfl
@[simp] theorem setArith_pc (m : LinkMode) (r : AluResult) : (s.setArith m r).pc = s.pc := rfl
@[simp] theorem setArith_nib (m : LinkMode) (r : AluResult) : (s.setArith m r).nib = s.nib := rfl
@[simp] theorem setArith_cfg (m : LinkMode) (r : AluResult) : (s.setArith m r).cfg = s.cfg := rfl
@[simp] theorem setArith_c (m : LinkMode) (r : AluResult) : (s.setArith m r).c = r.carry := rfl
@[simp] theorem setArith_z (m : LinkMode) (r : AluResult) : (s.setArith m r).z = s.z := rfl
@[simp] theorem setArith_n (m : LinkMode) (r : AluResult) : (s.setArith m r).n = r.negative := rfl
@[simp] theorem setArith_v (m : LinkMode) (r : AluResult) : (s.setArith m r).v = r.overflow := rfl
@[simp] theorem setArith_cmpp (m : LinkMode) (r : AluResult) : (s.setArith m r).cmpp = s.cmpp := rfl
@[simp] theorem setArith_xopp (m : LinkMode) (r : AluResult) : (s.setArith m r).xopp = s.xopp := rfl
@[simp] theorem setArith_ia (m : LinkMode) (r : AluResult) : (s.setArith m r).ia = s.ia := rfl
@[simp] theorem setArith_iar (m : LinkMode) (r : AluResult) : (s.setArith m r).iar = s.iar := rfl
@[simp] theorem setArith_sleep (m : LinkMode) (r : AluResult) : (s.setArith m r).sleep = s.sleep := rfl
@[simp] theorem setArith_swIE (m : LinkMode) (r : AluResult) : (s.setArith m r).swIE = s.swIE := rfl
@[simp] theorem setArith_extIE (m : LinkMode) (r : AluResult) : (s.setArith m r).extIE = s.extIE := rfl
@[simp] theorem setArith_tIE (m : LinkMode) (r : AluResult) : (s.setArith m r).tIE = s.tIE := rfl
@[simp] theorem setArith_wdog (m : LinkMode) (r : AluResult) : (s.setArith m r).wdog = s.wdog := rfl
@[simp] theorem setArith_inIsr (m : LinkMode) (r : AluResult) : (s.setArith m r).inIsr = s.inIsr := rfl
@[simp] theorem setArith_extP (m : LinkMode) (r : AluResult) : (s.setArith m r).extP = s.extP := rfl
@[simp] theorem setArith_tP (m : LinkMode) (r : AluResult) : (s.setArith m r).tP = s.tP := rfl
@[simp] theorem setArith_swP (m : LinkMode) (r : AluResult) : (s.setArith m r).swP = s.swP := rfl
@[simp] theorem setArith_dbgStep (m : LinkMode) (r : AluResult) : (s.setArith m r).dbgStep = s.dbgStep := rfl
@[simp] theorem setArith_timer (m : LinkMode) (r : AluResult) : (s.setArith m r).timer = s.timer := rfl
@[simp] theorem setArith_timerCmp (m : LinkMode) (r : AluResult) : (s.setArith m r).timerCmp = s.timerCmp := rfl
@[simp] theorem setArith_gpr1 (m : LinkMode) (r : AluResult) : (s.setArith m r).gpr1 = s.gpr1 := rfl
@[simp] theorem setArith_gpr2 (m : LinkMode) (r : AluResult) : (s.setArith m r).gpr2 = s.gpr2 := rfl
@[simp] theorem setArith_gpr3 (m : LinkMode) (r : AluResult) : (s.setArith m r).gpr3 = s.gpr3 := rfl
@[simp] theorem setArith_mem (m : LinkMode) (r : AluResult) : (s.setArith m r).mem = s.mem := rfl
@[simp] theorem setArith_env (m : LinkMode) (r : AluResult) : (s.setArith m r).env = s.env := rfl
@[simp] theorem setArith_draws (m : LinkMode) (r : AluResult) : (s.setArith m r).draws = s.draws := rfl

end setArith

section jumpTo
variable (s : State)

@[simp] theorem jumpTo_par (x : Half) : (s.jumpTo x).par = s.par := rfl
@[simp] theorem jumpTo_acc (x : Half) : (s.jumpTo x).acc = s.acc := rfl
@[simp] theorem jumpTo_rs0 (x : Half) : (s.jumpTo x).rs0 = s.rs0 := rfl
@[simp] theorem jumpTo_rs1 (x : Half) : (s.jumpTo x).rs1 = s.rs1 := rfl
@[simp] theorem jumpTo_ra0 (x : Half) : (s.jumpTo x).ra0 = s.ra0 := rfl
@[simp] theorem jumpTo_ra1 (x : Half) : (s.jumpTo x).ra1 = s.ra1 := rfl
@[simp] theorem jumpTo_pc (x : Half) : (s.jumpTo x).pc = x := rfl
@[simp] theorem jumpTo_nib (x : Half) : (s.jumpTo x).nib = false := rfl
@[simp] theorem jumpTo_cfg (x : Half) : (s.jumpTo x).cfg = s.cfg := rfl
@[simp] theorem jumpTo_c (x : Half) : (s.jumpTo x).c = s.c := rfl
@[simp] theorem jumpTo_z (x : Half) : (s.jumpTo x).z = s.z := rfl
@[simp] theorem jumpTo_n (x : Half) : (s.jumpTo x).n = s.n := rfl
@[simp] theorem jumpTo_v (x : Half) : (s.jumpTo x).v = s.v := rfl
@[simp] theorem jumpTo_cmpp (x : Half) : (s.jumpTo x).cmpp = s.cmpp := rfl
@[simp] theorem jumpTo_xopp (x : Half) : (s.jumpTo x).xopp = s.xopp := rfl
@[simp] theorem jumpTo_ia (x : Half) : (s.jumpTo x).ia = s.ia := rfl
@[simp] theorem jumpTo_iar (x : Half) : (s.jumpTo x).iar = s.iar := rfl
@[simp] theorem jumpTo_sleep (x : Half) : (s.jumpTo x).sleep = s.sleep := rfl
@[simp] theorem jumpTo_swIE (x : Half) : (s.jumpTo x).swIE = s.swIE := rfl
@[simp] theorem jumpTo_extIE (x : Half) : (s.jumpTo x).extIE = s.extIE := rfl
@[simp] theorem jumpTo_tIE (x : Half) : (s.jumpTo x).tIE = s.tIE := rfl
@[simp] theorem jumpTo_wdog (x : Half) : (s.jumpTo x).wdog = s.wdog := rfl
@[simp] theorem jumpTo_inIsr (x : Half) : (s.jumpTo x).inIsr = s.inIsr := rfl
@[simp] theorem jumpTo_extP (x : Half) : (s.jumpTo x).extP = s.extP := rfl
@[simp] theorem jumpTo_tP (x : Half) : (s.jumpTo x).tP = s.tP := rfl
@[simp] theorem jumpTo_swP (x : Half) : (s.jumpTo x).swP = s.swP := rfl
@[simp] theorem jumpTo_dbgStep (x : Half) : (s.jumpTo x).dbgStep = s.dbgStep := rfl
@[simp] theorem jumpTo_timer (x : Half) : (s.jumpTo x).timer = s.timer := rfl
@[simp] theorem jumpTo_timerCmp (x : Half) : (s.jumpTo x).timerCmp = s.timerCmp := rfl
@[simp] theorem jumpTo_gpr1 (x : Half) : (s.jumpTo x).gpr1 = s.gpr1 := rfl
@[simp] theorem jumpTo_gpr2 (x : Half) : (s.jumpTo x).gpr2 = s.gpr2 := rfl
@[simp] theorem jumpTo_gpr3 (x : Half) : (s.jumpTo x).gpr3 = s.gpr3 := rfl
@[simp] theorem jumpTo_mem (x : Half) : (s.jumpTo x).mem = s.mem := rfl
@[simp] theorem jumpTo_env (x : Half) : (s.jumpTo x).env = s.env := rfl
@[simp] theorem jumpTo_draws (x : Half) : (s.jumpTo x).draws = s.draws := rfl

end jumpTo

section setAddrReg
variable (s : State)

@[simp] theorem setAddrReg_par (ar : AddrReg) (x : Half) : (s.setAddrReg ar x).par = s.par := by cases ar <;> rfl
@[simp] theorem setAddrReg_acc (ar : AddrReg) (x : Half) : (s.setAddrReg ar x).acc = s.acc := by cases ar <;> rfl
@[simp] theorem setAddrReg_rs0 (ar : AddrReg) (x : Half) : (s.setAddrReg ar x).rs0 = s.rs0 := by cases ar <;> rfl
@[simp] theorem setAddrReg_rs1 (ar : AddrReg) (x : Half) : (s.setAddrReg ar x).rs1 = s.rs1 := by cases ar <;> rfl
@[simp] theorem setAddrReg_pc (ar : AddrReg) (x : Half) : (s.setAddrReg ar x).pc = s.pc := by cases ar <;> rfl
@[simp] theorem setAddrReg_nib (ar : AddrReg) (x : Half) : (s.setAddrReg ar x).nib = s.nib := by cases ar <;> rfl
@[simp] theorem setAddrReg_cfg (ar : AddrReg) (x : Half) : (s.setAddrReg ar x).cfg = s.cfg := by cases ar <;> rfl
@[simp] theorem setAddrReg_c (ar : AddrReg) (x : Half) : (s.setAddrReg ar x).c = s.c := by cases ar <;> rfl
@[simp] theorem setAddrReg_z (ar : AddrReg) (x : Half) : (s.setAddrReg ar x).z = s.z := by cases ar <;> rfl
@[simp] theorem setAddrReg_n (ar : AddrReg) (x : Half) : (s.setAddrReg ar x).n = s.n := by cases ar <;> rfl
@[simp] theorem setAddrReg_v (ar : AddrReg) (x : Half) : (s.setAddrReg ar x).v = s.v := by cases ar <;> rfl
@[simp] theorem setAddrReg_cmpp (ar : AddrReg) (x : Half) : (s.setAddrReg ar x).cmpp = s.cmpp := by cases ar <;> rfl
@[simp] theorem setAddrReg_xopp (ar : AddrReg) (x : Half) : (s.setAddrReg ar x).xopp = s.xopp := by cases ar <;> rfl
@[simp] theorem setAddrReg_ia (ar : AddrReg) (x : Half) : (s.setAddrReg ar x).ia = s.ia := by cases ar <;> rfl
@[simp] theorem setAddrReg_iar (ar : AddrReg) (x : Half) : (s.setAddrReg ar x).iar = s.iar := by cases ar <;> rfl
@[simp] theorem setAddrReg_sleep (ar : AddrReg) (x : Half) : (s.setAddrReg ar x).sleep = s.sleep := by cases ar <;> rfl
@[simp] theorem setAddrReg_swIE (ar : AddrReg) (x : Half) : (s.setAddrReg ar x).swIE = s.swIE := by cases ar <;> rfl
@[simp] theorem setAddrReg_extIE (ar : AddrReg) (x : Half) : (s.setAddrReg ar x).extIE = s.extIE := by cases ar <;> rfl
@[simp] theorem setAddrReg_tIE (ar : AddrReg) (x : Half) : (s.setAddrReg ar x).tIE = s.tIE := by cases ar <;> rfl
@[simp] theorem setAddrReg_wdog (ar : AddrReg) (x : Half) : (s.setAddrReg ar x).wdog = s.wdog := by cases ar <;> rfl
@[simp] theorem setAddrReg_inIsr (ar : AddrReg) (x : Half) : (s.setAddrReg ar x).inIsr = s.inIsr := by cases ar <;> rfl
@[simp] theorem setAddrReg_extP (ar : AddrReg) (x : Half) : (s.setAddrReg ar x).extP = s.extP := by cases ar <;> rfl
@[simp] theorem setAddrReg_tP (ar : AddrReg) (x : Half) : (s.setAddrReg ar x).tP = s.tP := by cases ar <;> rfl
@[simp] theorem setAddrReg_swP (ar : AddrReg) (x : Half) : (s.setAddrReg ar x).swP = s.swP := by cases ar <;> rfl
@[simp] theorem setAddrReg_dbgStep (ar : AddrReg) (x : Half) : (s.setAddrReg ar x).dbgStep = s.dbgStep := by cases ar <;> rfl
@[simp] theorem setAddrReg_timer (ar : AddrReg) (x : Half) : (s.setAddrReg ar x).timer = s.timer := by cases ar <;> rfl
@[simp] theorem setAddrReg_timerCmp (ar : AddrReg) (x : Half) : (s.setAddrReg ar x).timerCmp = s.timerCmp := by cases ar <;> rfl
@[simp] theorem setAddrReg_gpr1 (ar : AddrReg) (x : Half) : (s.setAddrReg ar x).gpr1 = s.gpr1 := by cases ar <;> rfl
@[simp] theorem setAddrReg_gpr2 (ar : AddrReg) (x : Half) : (s.setAddrReg ar x).gpr2 = s.gpr2 := by cases ar <;> rfl
@[simp] theorem setAddrReg_gpr3 (ar : AddrReg) (x : Half) : (s.setAddrReg ar x).gpr3 = s.gpr3 := by cases ar <;> rfl
@[simp] theorem setAddrReg_mem (ar : AddrReg) (x : Half) : (s.setAddrReg ar x).mem = s.mem := by cases ar <;> rfl
@[simp] theorem setAddrReg_env (ar : AddrReg) (x : Half) : (s.setAddrReg ar x).env = s.env := by cases ar <;> rfl
@[simp] theorem setAddrReg_draws (ar : AddrReg) (x : Half) : (s.setAddrReg ar x).draws = s.draws := by cases ar <;> rfl

end setAddrReg

section trapEntry
variable (s : State)

@[simp] theorem trapEntry_par : (trapEntry s).par = s.par := rfl
@[simp] theorem trapEntry_acc : (trapEntry s).acc = s.acc := rfl
@[simp] theorem trapEntry_rs0 : (trapEntry s).rs0 = s.rs0 := rfl
@[simp] theorem trapEntry_rs1 : (trapEntry s).rs1 = s.rs1 := rfl
@[simp] theorem trapEntry_ra0 : (trapEntry s).ra0 = s.ra0 := rfl
@[simp] theorem trapEntry_ra1 : (trapEntry s).ra1 = s.ra1 := rfl
@[simp] theorem trapEntry_pc : (trapEntry s).pc = pageBase s.ia + 0x10 := rfl
@[simp] theorem trapEntry_nib : (trapEntry s).nib = false := rfl
@[simp] theorem trapEntry_cfg : (trapEntry s).cfg = clearIE s.cfg := rfl
@[simp] theorem trapEntry_c : (trapEntry s).c = s.c := rfl
@[simp] theorem trapEntry_z : (trapEntry s).z = false := rfl
@[simp] theorem trapEntry_n : (trapEntry s).n = s.n := rfl
@[simp] theorem trapEntry_v : (trapEntry s).v = s.v := rfl
@[simp] theorem trapEntry_cmpp : (trapEntry s).cmpp = false := rfl
@[simp] theorem trapEntry_xopp : (trapEntry s).xopp = false := rfl
@[simp] theorem trapEntry_ia : (trapEntry s).ia = s.ia := rfl
@[simp] theorem trapEntry_iar : (trapEntry s).iar = s.ia := rfl
@[simp] theorem trapEntry_sleep : (trapEntry s).sleep = s.sleep := rfl
@[simp] theorem trapEntry_swIE : (trapEntry s).swIE = s.swIE := rfl
@[simp] theorem trapEntry_extIE : (trapEntry s).extIE = s.extIE := rfl
@[simp] theorem trapEntry_tIE : (trapEntry s).tIE = s.tIE := rfl
@[simp] theorem trapEntry_wdog : (trapEntry s).wdog = s.wdog := rfl
@[simp] theorem trapEntry_inIsr : (trapEntry s).inIsr = true := rfl
@[simp] theorem trapEntry_extP : (trapEntry s).extP = s.extP := rfl
@[simp] theorem trapEntry_tP : (trapEntry s).tP = s.tP := rfl
@[simp] theorem trapEntry_swP : (trapEntry s).swP = s.swP := rfl
@[simp] theorem trapEntry_dbgStep : (trapEntry s).dbgStep = false := rfl
@[simp] theorem trapEntry_timer : (trapEntry s).timer = s.timer := rfl
@[simp] theorem trapEntry_timerCmp : (trapEntry s).timerCmp = s.timerCmp := rfl
@[simp] theorem trapEntry_gpr1 : (trapEntry s).gpr1 = s.gpr1 := rfl
@[simp] theorem trapEntry_gpr2 : (trapEntry s).gpr2 = s.gpr2 := rfl
@[simp] theorem trapEntry_gpr3 : (trapEntry s).gpr3 = s.gpr3 := rfl
@[simp] theorem trapEntry_mem : (trapEntry s).mem = s.mem.writeBytes (pageBase s.ia) (frameBytes s) := rfl
@[simp] theorem trapEntry_env : (trapEntry s).env = s.env := rfl
@[simp] theorem trapEntry_draws : (trapEntry s).draws = s.draws := rfl

end trapEntry

section trapReturn
variable (s : State)

@[simp] theorem trapReturn_par : (trapReturn s).par = s.par := rfl
@[simp] theorem trapReturn_acc : (trapReturn s).acc = s.acc := rfl
@[simp] theorem trapReturn_rs0 : (trapReturn s).rs0 = s.rs0 := rfl
@[simp] theorem trapReturn_rs1 : (trapReturn s).rs1 = s.rs1 := rfl
@[simp] theorem trapReturn_ra0 : (trapReturn s).ra0 = s.ra0 := rfl
@[simp] theorem trapReturn_ra1 : (trapReturn s).ra1 = s.mem.read16 (pageBase s.iar + 12) := rfl
@[simp] theorem trapReturn_pc : (trapReturn s).pc = s.mem.read16 (pageBase s.iar) := rfl
@[simp] theorem trapReturn_nib : (trapReturn s).nib = false := rfl
@[simp] theorem trapReturn_cfg : (trapReturn s).cfg = s.mem.read (pageBase s.iar + 2) := rfl
@[simp] theorem trapReturn_c : (trapReturn s).c = (s.mem.read (pageBase s.iar + 3)).getLsbD 0 := rfl
@[simp] theorem trapReturn_z : (trapReturn s).z = (s.mem.read (pageBase s.iar + 3)).getLsbD 1 := rfl
@[simp] theorem trapReturn_n : (trapReturn s).n = (s.mem.read (pageBase s.iar + 3)).getLsbD 2 := rfl
@[simp] theorem trapReturn_v : (trapReturn s).v = (s.mem.read (pageBase s.iar + 3)).getLsbD 3 := rfl
@[simp] theorem trapReturn_cmpp : (trapReturn s).cmpp = s.cmpp := rfl
@[simp] theorem trapReturn_xopp : (trapReturn s).xopp = s.xopp := rfl
@[simp] theorem trapReturn_ia : (trapReturn s).ia = s.mem.read (pageBase s.iar + 14) := rfl
@[simp] theorem trapReturn_iar : (trapReturn s).iar = s.mem.read (pageBase s.iar + 15) := rfl
@[simp] theorem trapReturn_sleep : (trapReturn s).sleep = s.sleep := rfl
@[simp] theorem trapReturn_swIE : (trapReturn s).swIE = s.swIE := rfl
@[simp] theorem trapReturn_extIE : (trapReturn s).extIE = s.extIE := rfl
@[simp] theorem trapReturn_tIE : (trapReturn s).tIE = s.tIE := rfl
@[simp] theorem trapReturn_wdog : (trapReturn s).wdog = s.wdog := rfl
@[simp] theorem trapReturn_inIsr : (trapReturn s).inIsr = false := rfl
@[simp] theorem trapReturn_extP : (trapReturn s).extP = s.extP := rfl
@[simp] theorem trapReturn_tP : (trapReturn s).tP = s.tP := rfl
@[simp] theorem trapReturn_swP : (trapReturn s).swP = s.swP := rfl
@[simp] theorem trapReturn_dbgStep : (trapReturn s).dbgStep = s.dbgStep := rfl
@[simp] theorem trapReturn_timer : (trapReturn s).timer = s.timer := rfl
@[simp] theorem trapReturn_timerCmp : (trapReturn s).timerCmp = s.timerCmp := rfl
@[simp] theorem trapReturn_gpr1 : (trapReturn s).gpr1 = s.gpr1 := rfl
@[simp] theorem trapReturn_gpr2 : (trapReturn s).gpr2 = s.gpr2 := rfl
@[simp] theorem trapReturn_gpr3 : (trapReturn s).gpr3 = s.gpr3 := rfl
@[simp] theorem trapReturn_mem : (trapReturn s).mem = s.mem := rfl
@[simp] theorem trapReturn_env : (trapReturn s).env = s.env := rfl
@[simp] theorem trapReturn_draws : (trapReturn s).draws = s.draws := rfl

end trapReturn

section advance
variable (s : State)

@[simp] theorem advance_par : (s.advance).par = s.par := by
  unfold State.advance; split <;> rfl
@[simp] theorem advance_acc : (s.advance).acc = s.acc := by
  unfold State.advance; split <;> rfl
@[simp] theorem advance_rs0 : (s.advance).rs0 = s.rs0 := by
  unfold State.advance; split <;> rfl
@[simp] theorem advance_rs1 : (s.advance).rs1 = s.rs1 := by
  unfold State.advance; split <;> rfl
@[simp] theorem advance_ra0 : (s.advance).ra0 = s.ra0 := by
  unfold State.advance; split <;> rfl
@[simp] theorem advance_ra1 : (s.advance).ra1 = s.ra1 := by
  unfold State.advance; split <;> rfl
@[simp] theorem advance_pc : (s.advance).pc = s.pcNext := by
  unfold State.advance; split <;> simp_all [State.pcNext]
@[simp] theorem advance_nib : (s.advance).nib = !s.nib := by
  unfold State.advance; split <;> simp_all
@[simp] theorem advance_cfg : (s.advance).cfg = s.cfg := by
  unfold State.advance; split <;> rfl
@[simp] theorem advance_c : (s.advance).c = s.c := by
  unfold State.advance; split <;> rfl
@[simp] theorem advance_z : (s.advance).z = s.z := by
  unfold State.advance; split <;> rfl
@[simp] theorem advance_n : (s.advance).n = s.n := by
  unfold State.advance; split <;> rfl
@[simp] theorem advance_v : (s.advance).v = s.v := by
  unfold State.advance; split <;> rfl
@[simp] theorem advance_cmpp : (s.advance).cmpp = s.cmpp := by
  unfold State.advance; split <;> rfl
@[simp] theorem advance_xopp : (s.advance).xopp = s.xopp := by
  unfold State.advance; split <;> rfl
@[simp] theorem advance_ia : (s.advance).ia = s.ia := by
  unfold State.advance; split <;> rfl
@[simp] theorem advance_iar : (s.advance).iar = s.iar := by
  unfold State.advance; split <;> rfl
@[simp] theorem advance_sleep : (s.advance).sleep = s.sleep := by
  unfold State.advance; split <;> rfl
@[simp] theorem advance_swIE : (s.advance).swIE = s.swIE := by
  unfold State.advance; split <;> rfl
@[simp] theorem advance_extIE : (s.advance).extIE = s.extIE := by
  unfold State.advance; split <;> rfl
@[simp] theorem advance_tIE : (s.advance).tIE = s.tIE := by
  unfold State.advance; split <;> rfl
@[simp] theorem advance_wdog : (s.advance).wdog = s.wdog := by
  unfold State.advance; split <;> rfl
@[simp] theorem advance_inIsr : (s.advance).inIsr = s.inIsr := by
  unfold State.advance; split <;> rfl
@[simp] theorem advance_extP : (s.advance).extP = s.extP := by
  unfold State.advance; split <;> rfl
@[simp] theorem advance_tP : (s.advance).tP = s.tP := by
  unfold State.advance; split <;> rfl
@[simp] theorem advance_swP : (s.advance).swP = s.swP := by
  unfold State.advance; split <;> rfl
@[simp] theorem advance_dbgStep : (s.advance).dbgStep = s.dbgStep := by
  unfold State.advance; split <;> rfl
@[simp] theorem advance_timer : (s.advance).timer = s.timer := by
  unfold State.advance; split <;> rfl
@[simp] theorem advance_timerCmp : (s.advance).timerCmp = s.timerCmp := by
  unfold State.advance; split <;> rfl
@[simp] theorem advance_gpr1 : (s.advance).gpr1 = s.gpr1 := by
  unfold State.advance; split <;> rfl
@[simp] theorem advance_gpr2 : (s.advance).gpr2 = s.gpr2 := by
  unfold State.advance; split <;> rfl
@[simp] theorem advance_gpr3 : (s.advance).gpr3 = s.gpr3 := by
  unfold State.advance; split <;> rfl
@[simp] theorem advance_mem : (s.advance).mem = s.mem := by
  unfold State.advance; split <;> rfl
@[simp] theorem advance_env : (s.advance).env = s.env := by
  unfold State.advance; split <;> rfl
@[simp] theorem advance_draws : (s.advance).draws = s.draws := by
  unfold State.advance; split <;> rfl

end advance

section awaken
variable (s : State)

@[simp] theorem awaken_par : (s.awaken).par = s.par := by
  unfold State.awaken; split <;> rfl
@[simp] theorem awaken_acc : (s.awaken).acc = s.acc := by
  unfold State.awaken; split <;> rfl
@[simp] theorem awaken_rs0 : (s.awaken).rs0 = s.rs0 := by
  unfold State.awaken; split <;> rfl
@[simp] theorem awaken_rs1 : (s.awaken).rs1 = s.rs1 := by
  unfold State.awaken; split <;> rfl
@[simp] theorem awaken_ra0 : (s.awaken).ra0 = s.ra0 := by
  unfold State.awaken; split <;> rfl
@[simp] theorem awaken_ra1 : (s.awaken).ra1 = s.ra1 := by
  unfold State.awaken; split <;> rfl
@[simp] theorem awaken_pc : (s.awaken).pc = s.pc := by
  unfold State.awaken; split <;> rfl
@[simp] theorem awaken_nib : (s.awaken).nib = s.nib := by
  unfold State.awaken; split <;> rfl
@[simp] theorem awaken_cfg : (s.awaken).cfg = s.cfg := by
  unfold State.awaken; split <;> rfl
@[simp] theorem awaken_c : (s.awaken).c = s.c := by
  unfold State.awaken; split <;> rfl
@[simp] theorem awaken_z : (s.awaken).z = s.z := by
  unfold State.awaken; split <;> rfl
@[simp] theorem awaken_n : (s.awaken).n = s.n := by
  unfold State.awaken; split <;> rfl
@[simp] theorem awaken_v : (s.awaken).v = s.v := by
  unfold State.awaken; split <;> rfl
@[simp] theorem awaken_cmpp : (s.awaken).cmpp = s.cmpp := by
  unfold State.awaken; split <;> rfl
@[simp] theorem awaken_xopp : (s.awaken).xopp = s.xopp := by
  unfold State.awaken; split <;> rfl
@[simp] theorem awaken_ia : (s.awaken).ia = s.ia := by
  unfold State.awaken; split <;> rfl
@[simp] theorem awaken_iar : (s.awaken).iar = s.iar := by
  unfold State.awaken; split <;> rfl
@[simp] theorem awaken_sleep : (s.awaken).sleep = (!s.par.hasInt && s.sleep) := by
  unfold State.awaken; split <;> simp_all
@[simp] theorem awaken_swIE : (s.awaken).swIE = s.swIE := by
  unfold State.awaken; split <;> rfl
@[simp] theorem awaken_extIE : (s.awaken).extIE = s.extIE := by
  unfold State.awaken; split <;> rfl
@[simp] theorem awaken_tIE : (s.awaken).tIE = s.tIE := by
  unfold State.awaken; split <;> rfl
@[simp] theorem awaken_wdog : (s.awaken).wdog = s.wdog := by
  unfold State.awaken; split <;> rfl
@[simp] theorem awaken_inIsr : (s.awaken).inIsr = s.inIsr := by
  unfold State.awaken; split <;> rfl
@[simp] theorem awaken_extP : (s.awaken).extP = s.extP := by
  unfold State.awaken; split <;> rfl
@[simp] theorem awaken_tP : (s.awaken).tP = s.tP := by
  unfold State.awaken; split <;> rfl
@[simp] theorem awaken_swP : (s.awaken).swP = s.swP := by
  unfold State.awaken; split <;> rfl
@[simp] theorem awaken_dbgStep : (s.awaken).dbgStep = s.dbgStep := by
  unfold State.awaken; split <;> rfl
@[simp] theorem awaken_timer : (s.awaken).timer = s.timer := by
  unfold State.awaken; split <;> rfl
@[simp] theorem awaken_timerCmp : (s.awaken).timerCmp = s.timerCmp := by
  unfold State.awaken; split <;> rfl
@[simp] theorem awaken_gpr1 : (s.awaken).gpr1 = s.gpr1 := by
  unfold State.awaken; split <;> rfl
@[simp] theorem awaken_gpr2 : (s.awaken).gpr2 = s.gpr2 := by
  unfold State.awaken; split <;> rfl
@[simp] theorem awaken_gpr3 : (s.awaken).gpr3 = s.gpr3 := by
  unfold State.awaken; split <;> rfl
@[simp] theorem awaken_mem : (s.awaken).mem = s.mem := by
  unfold State.awaken; split <;> rfl
@[simp] theorem awaken_env : (s.awaken).env = s.env := by
  unfold State.awaken; split <;> rfl
@[simp] theorem awaken_draws : (s.awaken).draws = s.draws := by
  unfold State.awaken; split <;> rfl

end awaken

section applyNvRule
variable (s : State)

@[simp] theorem applyNvRule_par : (s.applyNvRule).par = s.par := by
  unfold State.applyNvRule; split <;> rfl
@[simp] theorem applyNvRule_acc : (s.applyNvRule).acc = s.acc := by
  unfold State.applyNvRule; split <;> rfl
@[simp] theorem applyNvRule_rs0 : (s.applyNvRule).rs0 = s.rs0 := by
  unfold State.applyNvRule; split <;> rfl
@[simp] theorem applyNvRule_rs1 : (s.applyNvRule).rs1 = s.rs1 := by
  unfold State.applyNvRule; split <;> rfl
@[simp] theorem applyNvRule_ra0 : (s.applyNvRule).ra0 = s.ra0 := by
  unfold State.applyNvRule; split <;> rfl
@[simp] theorem applyNvRule_ra1 : (s.applyNvRule).ra1 = s.ra1 := by
  unfold State.applyNvRule; split <;> rfl
@[simp] theorem applyNvRule_pc : (s.applyNvRule).pc = s.pc := by
  unfold State.applyNvRule; split <;> rfl
@[simp] theorem applyNvRule_nib : (s.applyNvRule).nib = s.nib := by
  unfold State.applyNvRule; split <;> rfl
@[simp] theorem applyNvRule_cfg : (s.applyNvRule).cfg = s.cfg := by
  unfold State.applyNvRule; split <;> rfl
@[simp] theorem applyNvRule_c : (s.applyNvRule).c = s.c := by
  unfold State.applyNvRule; split <;> rfl
@[simp] theorem applyNvRule_z : (s.applyNvRule).z = s.z := by
  unfold State.applyNvRule; split <;> rfl
@[simp] theorem applyNvRule_cmpp : (s.applyNvRule).cmpp = s.cmpp := by
  unfold State.applyNvRule; split <;> rfl
@[simp] theorem applyNvRule_xopp : (s.applyNvRule).xopp = s.xopp := by
  unfold State.applyNvRule; split <;> rfl
@[simp] theorem applyNvRule_ia : (s.applyNvRule).ia = s.ia := by
  unfold State.applyNvRule; split <;> rfl
@[simp] theorem applyNvRule_iar : (s.applyNvRule).iar = s.iar := by
  unfold State.applyNvRule; split <;> rfl
@[simp] theorem applyNvRule_sleep : (s.applyNvRule).sleep = s.sleep := by
  unfold State.applyNvRule; split <;> rfl
@[simp] theorem applyNvRule_swIE : (s.applyNvRule).swIE = s.swIE := by
  unfold State.applyNvRule; split <;> rfl
@[simp] theorem applyNvRule_extIE : (s.applyNvRule).extIE = s.extIE := by
  unfold State.applyNvRule; split <;> rfl
@[simp] theorem applyNvRule_tIE : (s.applyNvRule).tIE = s.tIE := by
  unfold State.applyNvRule; split <;> rfl
@[simp] theorem applyNvRule_wdog : (s.applyNvRule).wdog = s.wdog := by
  unfold State.applyNvRule; split <;> rfl
@[simp] theorem applyNvRule_inIsr : (s.applyNvRule).inIsr = s.inIsr := by
  unfold State.applyNvRule; split <;> rfl
@[simp] theorem applyNvRule_extP : (s.applyNvRule).extP = s.extP := by
  unfold State.applyNvRule; split <;> rfl
@[simp] theorem applyNvRule_tP : (s.applyNvRule).tP = s.tP := by
  unfold State.applyNvRule; split <;> rfl
@[simp] theorem applyNvRule_swP : (s.applyNvRule).swP = s.swP := by
  unfold State.applyNvRule; split <;> rfl
@[simp] theorem applyNvRule_dbgStep : (s.applyNvRule).dbgStep = s.dbgStep := by
  unfold State.applyNvRule; split <;> rfl
@[simp] theorem applyNvRule_timer : (s.applyNvRule).timer = s.timer := by
  unfold State.applyNvRule; split <;> rfl
@[simp] theorem applyNvRule_timerCmp : (s.applyNvRule).timerCmp = s.timerCmp := by
  unfold State.applyNvRule; split <;> rfl
@[simp] theorem applyNvRule_gpr1 : (s.applyNvRule).gpr1 = s.gpr1 := by
  unfold State.applyNvRule; split <;> rfl
@[simp] theorem applyNvRule_gpr2 : (s.applyNvRule).gpr2 = s.gpr2 := by
  unfold State.applyNvRule; split <;> rfl
@[simp] theorem applyNvRule_gpr3 : (s.applyNvRule).gpr3 = s.gpr3 := by
  unfold State.applyNvRule; split <;> rfl
@[simp] theorem applyNvRule_mem : (s.applyNvRule).mem = s.mem := by
  unfold State.applyNvRule; split <;> rfl
@[simp] theorem applyNvRule_env : (s.applyNvRule).env = s.env := by
  unfold State.applyNvRule; split <;> rfl

end applyNvRule

section setLogic
variable (s : State)

@[simp] theorem setLogic_par (m : LinkMode) (x : Nat) : (s.setLogic m x).par = s.par := by
  simp [State.setLogic]
@[simp] theorem setLogic_acc (m : LinkMode) (x : Nat) : (s.setLogic m x).acc = putLow (width m) s.acc x := by
  simp [State.setLogic]
@[simp] theorem setLogic_rs0 (m : LinkMode) (x : Nat) : (s.setLogic m x).rs0 = s.rs0 := by
  simp [State.setLogic]
@[simp] theorem setLogic_rs1 (m : LinkMode) (x : Nat) : (s.setLogic m x).rs1 = s.rs1 := by
  simp [State.setLogic]
@[simp] theorem setLogic_ra0 (m : LinkMode) (x : Nat) : (s.setLogic m x).ra0 = s.ra0 := by
  simp [State.setLogic]
@[simp] theorem setLogic_ra1 (m : LinkMode) (x : Nat) : (s.setLogic m x).ra1 = s.ra1 := by
  simp [State.setLogic]
@[simp] theorem setLogic_pc (m : LinkMode) (x : Nat) : (s.setLogic m x).pc = s.pc := by
  simp [State.setLogic]
@[simp] theorem setLogic_nib (m : LinkMode) (x : Nat) : (s.setLogic m x).nib = s.nib := by
  simp [State.setLogic]
@[simp] theorem setLogic_cfg (m : LinkMode) (x : Nat) : (s.setLogic m x).cfg = s.cfg := by
  simp [State.setLogic]
@[simp] theorem setLogic_c (m : LinkMode) (x : Nat) : (s.setLogic m x).c = s.c := by
  simp [State.setLogic]
@[simp] theorem setLogic_z (m : LinkMode) (x : Nat) : (s.setLogic m x).z = s.z := by
  simp [State.setLogic]
@[simp] theorem setLogic_cmpp (m : LinkMode) (x : Nat) : (s.setLogic m x).cmpp = s.cmpp := by
  simp [State.setLogic]
@[simp] theorem setLogic_xopp (m : LinkMode) (x : Nat) : (s.setLogic m x).xopp = s.xopp := by
  simp [State.setLogic]
@[simp] theorem setLogic_ia (m : LinkMode) (x : Nat) : (s.setLogic m x).ia = s.ia := by
  simp [State.setLogic]
@[simp] theorem setLogic_iar (m : LinkMode) (x : Nat) : (s.setLogic m x).iar = s.iar := by
  simp [State.setLogic]
@[simp] theorem setLogic_sleep (m : LinkMode) (x : Nat) : (s.setLogic m x).sleep = s.sleep := by
  simp [State.setLogic]
@[simp] theorem setLogic_swIE (m : LinkMode) (x : Nat) : (s.setLogic m x).swIE = s.swIE := by
  simp [State.setLogic]
@[simp] theorem setLogic_extIE (m : LinkMode) (x : Nat) : (s.setLogic m x).extIE = s.extIE := by
  simp [State.setLogic]
@[simp] theorem setLogic_tIE (m : LinkMode) (x : Nat) : (s.setLogic m x).tIE = s.tIE := by
  simp [State.setLogic]
@[simp] theorem setLogic_wdog (m : LinkMode) (x : Nat) : (s.setLogic m x).wdog = s.wdog := by
  simp [State.setLogic]
@[simp] theorem setLogic_inIsr (m : LinkMode) (x : Nat) : (s.setLogic m x).inIsr = s.inIsr := by
  simp [State.setLogic]
@[simp] theorem setLogic_extP (m : LinkMode) (x : Nat) : (s.setLogic m x).extP = s.extP := by
  simp [State.setLogic]
@[simp] theorem setLogic_tP (m : LinkMode) (x : Nat) : (s.setLogic m x).tP = s.tP := by
  simp [State.setLogic]
@[simp] theorem setLogic_swP (m : LinkMode) (x : Nat) : (s.setLogic m x).swP = s.swP := by
  simp [State.setLogic]
@[simp] theorem setLogic_dbgStep (m : LinkMode) (x : Nat) : (s.setLogic m x).dbgStep = s.dbgStep := by
  simp [State.setLogic]
@[simp] theorem setLogic_timer (m : LinkMode) (x : Nat) : (s.setLogic m x).timer = s.timer := by
  simp [State.setLogic]
@[simp] theorem setLogic_timerCmp (m : LinkMode) (x : Nat) : (s.setLogic m x).timerCmp = s.timerCmp := by
  simp [State.setLogic]
@[simp] theorem setLogic_gpr1 (m : LinkMode) (x : Nat) : (s.setLogic m x).gpr1 = s.gpr1 := by
  simp [State.setLogic]
@[simp] theorem setLogic_gpr2 (m : LinkMode) (x : Nat) : (s.setLogic m x).gpr2 = s.gpr2 := by
  simp [State.setLogic]
@[simp] theorem setLogic_gpr3 (m : LinkMode) (x : Nat) : (s.setLogic m x).gpr3 = s.gpr3 := by
  simp [State.setLogic]
@[simp] theorem setLogic_mem (m : LinkMode) (x : Nat) : (s.setLogic m x).mem = s.mem := by
  simp [State.setLogic]
@[simp] theorem setLogic_env (m : LinkMode) (x : Nat) : (s.setLogic m x).env = s.env := by
  simp [State.setLogic]

end setLogic

section setCarry
variable (s : State)

@[simp] theorem setCarry_par (b : Bool) : (s.setCarry b).par = s.par := by
  simp [State.setCarry]
@[simp] theorem setCarry_acc (b : Bool) : (s.setCarry b).acc = s.acc := by
  simp [State.setCarry]
@[simp] theorem setCarry_rs0 (b : Bool) : (s.setCarry b).rs0 = s.rs0 := by
  simp [State.setCarry]
@[simp] theorem setCarry_rs1 (b : Bool) : (s.setCarry b).rs1 = s.rs1 := by
  simp [State.setCarry]
@[simp] theorem setCarry_ra0 (b : Bool) : (s.setCarry b).ra0 = s.ra0 := by
  simp [State.setCarry]
@[simp] theorem setCarry_ra1 (b : Bool) : (s.setCarry b).ra1 = s.ra1 := by
  simp [State.setCarry]
@[simp] theorem setCarry_pc (b : Bool) : (s.setCarry b).pc = s.pc := by
  simp [State.setCarry]
@[simp] theorem setCarry_nib (b : Bool) : (s.setCarry b).nib = s.nib := by
  simp [State.setCarry]
@[simp] theorem setCarry_cfg (b : Bool) : (s.setCarry b).cfg = s.cfg := by
  simp [State.setCarry]
@[simp] theorem setCarry_c (b : Bool) : (s.setCarry b).c = b := by
  simp [State.setCarry]
@[simp] theorem setCarry_z (b : Bool) : (s.setCarry b).z = s.z := by
  simp [State.setCarry]
@[simp] theorem setCarry_cmpp (b : Bool) : (s.setCarry b).cmpp = s.cmpp := by
  simp [State.setCarry]
@[simp] theorem setCarry_xopp (b : Bool) : (s.setCarry b).xopp = s.xopp := by
  simp [State.setCarry]
@[simp] theorem setCarry_ia (b : Bool) : (s.setCarry b).ia = s.ia := by
  simp [State.setCarry]
@[simp] theorem setCarry_iar (b : Bool) : (s.setCarry b).iar = s.iar := by
  simp [State.setCarry]
@[simp] theorem setCarry_sleep (b : Bool) : (s.setCarry b).sleep = s.sleep := by
  simp [State.setCarry]
@[simp] theorem setCarry_swIE (b : Bool) : (s.setCarry b).swIE = s.swIE := by
  simp [State.setCarry]
@[simp] theorem setCarry_extIE (b : Bool) : (s.setCarry b).extIE = s.extIE := by
  simp [State.setCarry]
@[simp] theorem setCarry_tIE (b : Bool) : (s.setCarry b).tIE = s.tIE := by
  simp [State.setCarry]
@[simp] theorem setCarry_wdog (b : Bool) : (s.setCarry b).wdog = s.wdog := by
  simp [State.setCarry]
@[simp] theorem setCarry_inIsr (b : Bool) : (s.setCarry b).inIsr = s.inIsr := by
  simp [State.setCarry]
@[simp] theorem setCarry_extP (b : Bool) : (s.setCarry b).extP = s.extP := by
  simp [State.setCarry]
@[simp] theorem setCarry_tP (b : Bool) : (s.setCarry b).tP = s.tP := by
  simp [State.setCarry]
@[simp] theorem setCarry_swP (b : Bool) : (s.setCarry b).swP = s.swP := by
  simp [State.setCarry]
@[simp] theorem setCarry_dbgStep (b : Bool) : (s.setCarry b).dbgStep = s.dbgStep := by
  simp [State.setCarry]
@[simp] theorem setCarry_timer (b : Bool) : (s.setCarry b).timer = s.timer := by
  simp [State.setCarry]
@[simp] theorem setCarry_timerCmp (b : Bool) : (s.setCarry b).timerCmp = s.timerCmp := by
  simp [State.setCarry]
@[simp] theorem setCarry_gpr1 (b : Bool) : (s.setCarry b).gpr1 = s.gpr1 := by
  simp [State.setCarry]
@[simp] theorem setCarry_gpr2 (b : Bool) : (s.setCarry b).gpr2 = s.gpr2 := by
  simp [State.setCarry]
@[simp] theorem setCarry_gpr3 (b : Bool) : (s.setCarry b).gpr3 = s.gpr3 := by
  simp [State.setCarry]
@[simp] theorem setCarry_mem (b : Bool) : (s.setCarry b).mem = s.mem := by
  simp [State.setCarry]
@[simp] theorem setCarry_env (b : Bool) : (s.setCarry b).env = s.env := by
  simp [State.setCarry]

end setCarry

section powerOn
variable (p : Config)

@[simp] theorem powerOn_par : (State.powerOn p).par = p := rfl
@[simp] theorem powerOn_acc : (State.powerOn p).acc = p.resetValues.acc := rfl
@[simp] theorem powerOn_rs0 : (State.powerOn p).rs0 = p.resetValues.rs0 := rfl
@[simp] theorem powerOn_rs1 : (State.powerOn p).rs1 = p.resetValues.rs1 := rfl
@[simp] theorem powerOn_ra0 : (State.powerOn p).ra0 = p.resetValues.ra0 := rfl
@[simp] theorem powerOn_ra1 : (State.powerOn p).ra1 = p.resetValues.ra1 := rfl
@[simp] theorem powerOn_pc : (State.powerOn p).pc = 0 := rfl
@[simp] theorem powerOn_nib : (State.powerOn p).nib = false := rfl
@[simp] theorem powerOn_cfg : (State.powerOn p).cfg = 0 := rfl
@[simp] theorem powerOn_c : (State.powerOn p).c = p.resetValues.c := rfl
@[simp] theorem powerOn_z : (State.powerOn p).z = false := rfl
@[simp] theorem powerOn_n : (State.powerOn p).n = p.resetValues.n := rfl
@[simp] theorem powerOn_v : (State.powerOn p).v = p.resetValues.v := rfl
@[simp] theorem powerOn_cmpp : (State.powerOn p).cmpp = false := rfl
@[simp] theorem powerOn_xopp : (State.powerOn p).xopp = false := rfl
@[simp] theorem powerOn_ia : (State.powerOn p).ia = p.resetValues.ia := rfl
@[simp] theorem powerOn_iar : (State.powerOn p).iar = p.resetValues.iar := rfl
@[simp] theorem powerOn_sleep : (State.powerOn p).sleep = false := rfl
@[simp] theorem powerOn_swIE : (State.powerOn p).swIE = p.resetValues.swIE := rfl
@[simp] theorem powerOn_extIE : (State.powerOn p).extIE = p.resetValues.extIE := rfl
@[simp] theorem powerOn_tIE : (State.powerOn p).tIE = p.resetValues.tIE := rfl
@[simp] theorem powerOn_wdog : (State.powerOn p).wdog = false := rfl
@[simp] theorem powerOn_inIsr : (State.powerOn p).inIsr = false := rfl
@[simp] theorem powerOn_extP : (State.powerOn p).extP = false := rfl
@[simp] theorem powerOn_tP : (State.powerOn p).tP = false := rfl
@[simp] theorem powerOn_swP : (State.powerOn p).swP = false := rfl
@[simp] theorem powerOn_dbgStep : (State.powerOn p).dbgStep = false := rfl
@[simp] theorem powerOn_timer : (State.powerOn p).timer = p.resetValues.timer := rfl
@[simp] theorem powerOn_timerCmp : (State.powerOn p).timerCmp = p.resetValues.timerCmp := rfl
@[simp] theorem powerOn_gpr1 : (State.powerOn p).gpr1 = p.resetValues.gpr1 := rfl
@[simp] theorem powerOn_gpr2 : (State.powerOn p).gpr2 = p.resetValues.gpr2 := rfl
@[simp] theorem powerOn_gpr3 : (State.powerOn p).gpr3 = p.resetValues.gpr3 := rfl
@[simp] theorem powerOn_mem : (State.powerOn p).mem = p.memInit := rfl
@[simp] theorem powerOn_env : (State.powerOn p).env = [] := rfl
@[simp] theorem powerOn_draws : (State.powerOn p).draws = 0 := rfl

end powerOn

section resetCore
variable (s : State)

@[simp] theorem resetCore_par : (resetCore s).par = s.par := rfl
@[simp] theorem resetCore_acc : (resetCore s).acc = s.par.resetValues.acc := rfl
@[simp] theorem resetCore_rs0 : (resetCore s).rs0 = s.par.resetValues.rs0 := rfl
@[simp] theorem resetCore_rs1 : (resetCore s).rs1 = s.par.resetValues.rs1 := rfl
@[simp] theorem resetCore_ra0 : (resetCore s).ra0 = s.par.resetValues.ra0 := rfl
@[simp] theorem resetCore_ra1 : (resetCore s).ra1 = s.par.resetValues.ra1 := rfl
@[simp] theorem resetCore_pc : (resetCore s).pc = 0 := rfl
@[simp] theorem resetCore_nib : (resetCore s).nib = false := rfl
@[simp] theorem resetCore_cfg : (resetCore s).cfg = 0 := rfl
@[simp] theorem resetCore_c : (resetCore s).c = s.par.resetValues.c := rfl
@[simp] theorem resetCore_z : (resetCore s).z = false := rfl
@[simp] theorem resetCore_n : (resetCore s).n = s.par.resetValues.n := rfl
@[simp] theorem resetCore_v : (resetCore s).v = s.par.resetValues.v := rfl
@[simp] theorem resetCore_cmpp : (resetCore s).cmpp = false := rfl
@[simp] theorem resetCore_xopp : (resetCore s).xopp = false := rfl
@[simp] theorem resetCore_ia : (resetCore s).ia = s.par.resetValues.ia := rfl
@[simp] theorem resetCore_iar : (resetCore s).iar = s.par.resetValues.iar := rfl
@[simp] theorem resetCore_sleep : (resetCore s).sleep = false := rfl
@[simp] theorem resetCore_swIE : (resetCore s).swIE = s.par.resetValues.swIE := rfl
@[simp] theorem resetCore_extIE : (resetCore s).extIE = s.par.resetValues.extIE := rfl
@[simp] theorem resetCore_tIE : (resetCore s).tIE = s.par.resetValues.tIE := rfl
@[simp] theorem resetCore_wdog : (resetCore s).wdog = false := rfl
@[simp] theorem resetCore_inIsr : (resetCore s).inIsr = false := rfl
@[simp] theorem resetCore_extP : (resetCore s).extP = false := rfl
@[simp] theorem resetCore_tP : (resetCore s).tP = false := rfl
@[simp] theorem resetCore_swP : (resetCore s).swP = false := rfl
@[simp] theorem resetCore_dbgStep : (resetCore s).dbgStep = false := rfl
@[simp] theorem resetCore_timer : (resetCore s).timer = s.par.resetValues.timer := rfl
@[simp] theorem resetCore_timerCmp : (resetCore s).timerCmp = s.par.resetValues.timerCmp := rfl
@[simp] theorem resetCore_gpr1 : (resetCore s).gpr1 = s.par.resetValues.gpr1 := rfl
@[simp] theorem resetCore_gpr2 : (resetCore s).gpr2 = s.par.resetValues.gpr2 := rfl
@[simp] theorem resetCore_gpr3 : (resetCore s).gpr3 = s.par.resetValues.gpr3 := rfl
@[simp] theorem resetCore_mem : (resetCore s).mem = s.mem := rfl
@[simp] theorem resetCore_env : (resetCore s).env = s.env := rfl
@[simp] theorem resetCore_draws : (resetCore s).draws = s.draws := rfl

end resetCore

/-- With the default NV_RULE an ALU instruction leaves N and V as its own rule says. -/
@[simp] theorem applyNvRule_arithmetic {s : State} (h : s.par.nvRule = .arithmetic) : s.applyNvRule = s := by
  unfold State.applyNvRule; rw [h]

/-- All that NV_RULE can do: nothing, or new values for N and V and one draw. -/
theorem applyNvRule_cases (s : State) :
    s.applyNvRule = s ∨
      s.applyNvRule =
        { s with n := Config.freeN s.draws, v := Config.freeV s.draws, draws := s.draws + 1 } := by
  unfold State.applyNvRule
  split
  · exact .inl rfl
  · exact .inr rfl

/-- The common completion and NV_RULE concern different fields. -/
theorem complete_applyNvRule (s : State) : complete s.applyNvRule = (complete s).applyNvRule := by
  cases h : s.par.nvRule <;> simp [State.applyNvRule, complete, h]

@[simp] theorem setAddrReg_same (s : State) (ar : AddrReg) (x : Half) : (s.setAddrReg ar x).addrReg ar = x := by
  cases ar <;> rfl

@[simp] theorem setAddrReg_ra0_ra1 (s : State) (x : Half) : (s.setAddrReg .ra0 x).ra1 = s.ra1 := rfl
@[simp] theorem setAddrReg_ra1_ra0 (s : State) (x : Half) : (s.setAddrReg .ra1 x).ra0 = s.ra0 := rfl
@[simp] theorem setAddrReg_ra0_ra0 (s : State) (x : Half) : (s.setAddrReg .ra0 x).ra0 = x := rfl
@[simp] theorem setAddrReg_ra1_ra1 (s : State) (x : Half) : (s.setAddrReg .ra1 x).ra1 = x := rfl

/-! ### Parts of a register -/

theorem width_cases (m : LinkMode) : width m = 4 ∨ width m = 8 ∨ width m = 16 := by
  cases m <;> simp [width]

/-- The value of a register after its low part is replaced. -/
theorem putLow_toNat (m : LinkMode) (x : Half) (v : Nat) :
    (putLow (width m) x v).toNat = x.toNat / 2 ^ width m * 2 ^ width m + v % 2 ^ width m := by
  have hx := x.isLt
  simp only [putLow, BitVec.toNat_ofNat]
  obtain h | h | h := width_cases m <;> simp only [h] <;> omega

/-- The low part of a register after it is replaced. -/
theorem lowBits_putLow (m : LinkMode) (x : Half) (v : Nat) :
    lowBits (width m) (putLow (width m) x v) = v % 2 ^ width m := by
  simp only [lowBits, putLow_toNat]
  obtain h | h | h := width_cases m <;> simp only [h] <;> omega

/-- The high part of a register after its low part is replaced. -/
theorem high_putLow (m : LinkMode) (x : Half) (v : Nat) :
    (putLow (width m) x v).toNat / 2 ^ width m = x.toNat / 2 ^ width m := by
  simp only [putLow_toNat]
  obtain h | h | h := width_cases m <;> simp only [h] <;> omega

/-- A bit of a register after its low part is replaced. -/
theorem getLsbD_putLow (m : LinkMode) (x : Half) (v j : Nat) :
    (putLow (width m) x v).getLsbD j = if j < width m then v.testBit j else x.getLsbD j := by
  rw [← BitVec.testBit_toNat, ← BitVec.testBit_toNat, putLow_toNat, Nat.mul_comm,
    Nat.testBit_two_pow_mul_add _ (Nat.mod_lt _ (Nat.two_pow_pos _)), Nat.testBit_mod_two_pow]
  by_cases hj : j < width m
  · simp [hj]
  · simp only [if_neg hj, ← Nat.shiftRight_eq_div_pow, Nat.testBit_shiftRight]
    rw [Nat.add_sub_cancel' (by omega)]

end Sys2Proof.Machine
end

