-- ==== Sys2Proof/Laws/Operands.lean ====
section
/-! SUPPORT. What operands, results and effective addresses are as numbers and bits, and what each register
operation can change, said once for the proofs that cite it. -/

namespace Sys2Proof.Machine

/-! ### Numbers and bits of the active width -/

/-- `signed_w` is the two's-complement reading of `w` bits. -/
theorem signed_mod (m : LinkMode) (v : Nat) :
    signed (width m) (v % 2 ^ width m) = (BitVec.ofNat (width m) v).toInt := by
  unfold signed
  rw [BitVec.toInt_eq_toNat_cond, BitVec.toNat_ofNat]
  cases m <;> simp only [width] at * <;> norm_num at * <;> split_ifs <;> omega

/-- The sign bit of a result is the top bit of the active accumulator that holds it. -/
theorem signBit_putLow (m : LinkMode) (x : Half) (v : Nat) (hv : v < 2 ^ width m) :
    signBit (width m) v = (putLow (width m) x v).getLsbD (width m - 1) := by
  rw [getLsbD_putLow, signBit, if_pos (by cases m <;> simp [width])]
  cases m <;> simp only [width] at * <;> simp only [Nat.testBit_eq_decide_div_mod_eq] <;>
    norm_num at * <;> omega

theorem testBit_lowBits (w : Nat) (x : Half) (j : Nat) :
    (lowBits w x).testBit j = (decide (j < w) && x.getLsbD j) := by
  simp [lowBits, Nat.testBit_mod_two_pow, BitVec.getLsbD]

theorem testBit_immOperand {k : Nat} (m : LinkMode) (imm : BitVec k) (j : Nat) :
    (immOperand m imm).testBit j = (decide (j < width m) && imm.getLsbD j) := by
  simp [immOperand, Nat.testBit_mod_two_pow, BitVec.getLsbD]

/-- A 4-bit immediate fits in every active width. -/
theorem immOperand_nibble (m : LinkMode) (imm : Nibble) : immOperand m imm = imm.toNat :=
  Nat.mod_eq_of_lt (by have := imm.isLt; cases m <;> simp only [width] <;> omega)

/-- 16-bit value read signed or unsigned. -/
theorem readAs_half (b : Bool) (x : Half) : readAs b 16 x.toNat = if b then x.toInt else x.toNat := by
  have := x.isLt
  unfold readAs signed
  cases b <;> simp only [if_true, Bool.false_eq_true, if_false]
  rw [BitVec.toInt_eq_toNat_cond]; norm_num; split_ifs <;> omega

/-- 8-bit value read signed or unsigned. -/
theorem readAs_byte (b : Bool) (x : Byte) : readAs b 8 x.toNat = if b then x.toInt else x.toNat := by
  have := x.isLt
  unfold readAs signed
  cases b <;> simp only [if_true, Bool.false_eq_true, if_false]
  rw [BitVec.toInt_eq_toNat_cond]; norm_num; split_ifs <;> omega

/-! ### Branch offsets and addresses -/

theorem branchOffset_nibble (s : State) (imm : Nibble) :
    s.branchOffset imm = BitVec.ofInt 16 (imm.toInt * (if s.cfg.getLsbD 5 then 4 else 1)) := by
  unfold State.branchOffset State.brs
  cases s.cfg.getLsbD 5 <;> simp only [if_true, Bool.false_eq_true, if_false] <;> revert imm <;> decide

theorem branchOffset_byte (s : State) (imm : Byte) :
    s.branchOffset imm = BitVec.ofInt 16 (imm.toInt * (if s.cfg.getLsbD 5 then 4 else 1)) := by
  unfold State.branchOffset State.brs
  cases s.cfg.getLsbD 5 <;> simp only [if_true, Bool.false_eq_true, if_false] <;> revert imm <;>
    decide +kernel

theorem pageBase_toNat (p : Byte) : (pageBase p).toNat = p.toNat * 256 := by
  simp only [pageBase, BitVec.toNat_append]
  rw [← Nat.shiftLeft_add_eq_or_of_lt (by simp), Nat.shiftLeft_eq]
  simp

/-- The byte at an offset of an interrupt page. -/
theorem pageBase_add (p : Byte) (k : Nat) (hk : k < 256) :
    pageBase p + BitVec.ofNat 16 k = BitVec.ofNat 16 (p.toNat * 256 + k) := by
  apply BitVec.eq_of_toNat_eq
  rw [BitVec.toNat_add, pageBase_toNat]
  simp [Nat.mod_eq_of_lt (show k < 65536 by omega)]

theorem read16_toNat (m : Memory) (a : Half) :
    (m.read16 a).toNat = (m.read a).toNat + 256 * (m.read (a + 1)).toNat := by
  simp only [Memory.read16, BitVec.toNat_append]
  rw [← Nat.shiftLeft_add_eq_or_of_lt (m.read a).isLt, Nat.shiftLeft_eq]
  omega

theorem flagsByte_toNat (s : State) :
    s.flagsByte.toNat = s.c.toNat + 2 * s.z.toNat + 4 * s.n.toNat + 8 * s.v.toNat := by
  unfold State.flagsByte; cases s.v <;> cases s.n <;> cases s.z <;> cases s.c <;> rfl

/-- What a byte reads as after the frame is written: the frame's byte at its offset, the old byte elsewhere. -/
theorem read_frame (s : State) (h : s.mem.wf = true) (a : Half) :
    (s.mem.writeBytes (pageBase s.ia) (frameBytes s)).read a =
      ((frameBytes s)[(a - pageBase s.ia).toNat]?).getD (s.mem.read a) :=
  read_writeBytes _ _ _ _ h (by simp [frameBytes])

/-! ### What each operation can change -/

/-- A branch lands on its target or leaves the state as it is. -/
theorem opBranch_cases {k : Nat} (cond : Bool) (imm : BitVec k) (s : State) :
    (cond = true ∧ opBranch cond imm s =
      { s with pc := s.pcNext + s.branchOffset imm, nib := false }) ∨
      (cond = false ∧ opBranch cond imm s = s) := by
  cases cond
  · exact .inr ⟨rfl, rfl⟩
  · exact .inl ⟨rfl, rfl⟩

/-- XMEM writes the accumulator (a load) or memory (a store), and the selected address register. -/
theorem opXmem_cases (m : LinkMode) (op : MemOp) (post : Bool) (dir : StrideDir) (ar : AddrReg)
    (s : State) :
    (op = .load ∧ opXmem m op post dir ar s =
      ({ s with acc := putLow (width m) s.acc (loadValue m (s.addrReg ar) s) } : State).setAddrReg ar
        (postAddr m post dir (s.addrReg ar))) ∨
      (op = .store ∧ opXmem m op post dir ar s =
        ({ s with mem := storeMem m (s.addrReg ar) s } : State).setAddrReg ar
          (postAddr m post dir (s.addrReg ar))) := by
  cases op
  · exact .inl ⟨rfl, rfl⟩
  · exact .inr ⟨rfl, rfl⟩

/-- A store keeps the canonical form. -/
theorem storeMem_wf (m : LinkMode) (a : Half) (s : State) (h : s.mem.wf = true) :
    (storeMem m a s).wf = true := by
  cases m <;> simp only [storeMem]
  · exact write_wf _ _ _ h
  · exact write_wf _ _ _ h
  · exact write16_wf _ _ _ h
  · exact write16_wf _ _ _ h

/-- A CSR write changes the fields behind the CSRs and nothing else. -/
theorem csrWrite_eq (s : State) (idx : Nibble) (v : Half) :
    csrWrite s idx v =
      { s with
        cfg := (csrWrite s idx v).cfg, timer := (csrWrite s idx v).timer,
        timerCmp := (csrWrite s idx v).timerCmp, swIE := (csrWrite s idx v).swIE,
        extIE := (csrWrite s idx v).extIE, tIE := (csrWrite s idx v).tIE,
        wdog := (csrWrite s idx v).wdog, extP := (csrWrite s idx v).extP,
        tP := (csrWrite s idx v).tP, swP := (csrWrite s idx v).swP,
        dbgStep := (csrWrite s idx v).dbgStep, ia := (csrWrite s idx v).ia,
        gpr1 := (csrWrite s idx v).gpr1, gpr2 := (csrWrite s idx v).gpr2,
        gpr3 := (csrWrite s idx v).gpr3 } := by
  unfold csrWrite writeIntctrl
  split <;> (try split) <;> rfl

/-- The environment's event keeps the parameters and the link mode. -/
@[simp] theorem takeEvent_par (s : State) : s.takeEvent.par = s.par := by
  unfold State.takeEvent; split <;> rfl

@[simp] theorem takeEvent_linkMode (s : State) : s.takeEvent.linkMode = s.linkMode := by
  unfold State.takeEvent; split <;> rfl

@[simp] theorem awaken_linkMode (s : State) : s.awaken.linkMode = s.linkMode := by
  unfold State.awaken; split <;> rfl

/-- An awake core goes on as it is. -/
theorem awaken_of_awake {s : State} (h : s.sleep = false) : s.awaken = s := by
  unfold State.awaken
  split
  · rw [← h]
  · rfl

end Sys2Proof.Machine
end

