-- ==== Sys2Proof/Laws/Ops.lean ====
section
/-! SUPPORT. What each shared operation can do, said once: the wrappers of the meanings, the timer, the
fetch, the frame and the step. -/

namespace Sys2Proof.Machine

/-! ### The wrappers of the meanings -/

theorem inMode_of_mode {s : State} {m : LinkMode} (h : s.linkMode = some m) (f : LinkMode → State) :
    inMode s f = .next (f m) := by
  unfold inMode; rw [h]

/-- If a meaning in a link mode answers a next state, a link mode is in force and the state is the
meaning's there. -/
theorem inMode_next {s t : State} {f : LinkMode → State} (h : inMode s f = .next t) :
    ∃ m, s.linkMode = some m ∧ t = f m := by
  unfold inMode at h
  split at h
  · cases h
  · rename_i m hm
    exact ⟨m, hm, by cases h; rfl⟩

/-- If a reserved opcode answers a next state, it was a no-op. -/
theorem opReserved_next {keep : Bool} {s t : State} (h : opReserved keep s = .next t) :
    t = complete s ∧ s.linkMode ≠ none := by
  unfold opReserved at h
  split at h
  · cases h
  · rename_i m hm
    split at h
    · cases h
    · cases h; exact ⟨rfl, by simp [hm]⟩

/-! ### Bytes of a register, the frame, the flags -/

/-- The two bytes of a 16-bit value, put together again. -/
@[simp] theorem highByte_append_lowByte (v : Half) : (highByte v ++ lowByte v : BitVec 16) = v := by
  simp only [highByte, lowByte]
  ext j hj
  simp only [BitVec.getElem_append, BitVec.getElem_extractLsb']
  by_cases h : j < 8
  · simp only [h, dite_true, Nat.zero_add]
    exact BitVec.getLsbD_eq_getElem (by omega)
  · simp only [h, dite_false, show 8 + (j - 8) = j by omega]
    exact BitVec.getLsbD_eq_getElem (by omega)

theorem flagsByte_c (s : State) : s.flagsByte.getLsbD 0 = s.c := by
  unfold State.flagsByte; cases s.v <;> cases s.n <;> cases s.z <;> cases s.c <;> rfl

theorem flagsByte_z (s : State) : s.flagsByte.getLsbD 1 = s.z := by
  unfold State.flagsByte; cases s.v <;> cases s.n <;> cases s.z <;> cases s.c <;> rfl

theorem flagsByte_n (s : State) : s.flagsByte.getLsbD 2 = s.n := by
  unfold State.flagsByte; cases s.v <;> cases s.n <;> cases s.z <;> cases s.c <;> rfl

theorem flagsByte_v (s : State) : s.flagsByte.getLsbD 3 = s.v := by
  unfold State.flagsByte; cases s.v <;> cases s.n <;> cases s.z <;> cases s.c <;> rfl

@[simp] theorem frameBytes_length (s : State) : (frameBytes s).length = 16 := rfl

/-! ### The timer -/

/-- One increment either resets the core or steps TIMER and may set T_P. -/
theorem tickOnce_cases (s : State) :
    tickOnce s = resetCore s ∨
      tickOnce s = { s with timer := s.timer + 1, tP := s.tP || (s.par.hasInt && s.matchNext) } := by
  unfold tickOnce
  split
  · exact .inl rfl
  · exact .inr rfl

/-- A property that one increment keeps holds after any number of them. -/
theorem tickMany_keeps {P : State → Prop} (h : ∀ s, P s → P (tickOnce s)) (k : Nat) (s : State)
    (hs : P s) : P (tickMany k s) := by
  induction k generalizing s with
  | zero => exact hs
  | succ k ih =>
    unfold tickMany
    split
    · exact h s hs
    · exact ih _ (h s hs)

/-- One increment keeps the parameters. -/
@[simp] theorem tickOnce_par (s : State) : (tickOnce s).par = s.par := by
  rcases tickOnce_cases s with h | h <;> simp [h]

/-- A property that one increment keeps on a core with the timer holds there after any number of them. -/
theorem tickMany_keeps_timer {P : State → Prop}
    (h : ∀ s, s.par.hasTimer = true → P s → P (tickOnce s)) (k : Nat) (s : State)
    (ht : s.par.hasTimer = true) (hs : P s) : P (tickMany k s) :=
  (tickMany_keeps (P := fun s => s.par.hasTimer = true ∧ P s)
    (fun s hs => ⟨by rw [tickOnce_par]; exact hs.1, h s hs.1 hs.2⟩) k s ⟨ht, hs⟩).2

/-- A property that one increment and a draw keep holds after the tick of an instruction. -/
theorem timerTick_keeps {P : State → Prop} (h : ∀ s, s.par.hasTimer = true → P s → P (tickOnce s))
    (hd : ∀ s n, P s → P { s with draws := n }) (s : State) (hs : P s) : P (timerTick s) := by
  unfold timerTick
  split
  · rename_i ht
    split
    · exact h s ht hs
    · exact tickMany_keeps_timer h _ _ ht (hd s _ hs)
  · exact hs

/-- A property that one increment and a draw keep holds after a step that retires nothing. -/
theorem idleTick_keeps {P : State → Prop} (h : ∀ s, s.par.hasTimer = true → P s → P (tickOnce s))
    (hd : ∀ s n, P s → P { s with draws := n }) (s : State) (hs : P s) : P (idleTick s) := by
  unfold idleTick
  split
  · rename_i ht
    exact tickMany_keeps_timer h _ _ ht.1 (hd s _ hs)
  · exact hs

/-- The transition to equality of R371, by one increment, is equality after it. -/
theorem matchNext_eq (s : State) :
    s.matchNext = (s.par.hasTimerCmp && decide (s.timer + 1 = s.timerCmp)) := by
  unfold State.matchNext
  by_cases h : s.timer + 1 = s.timerCmp
  · have : s.timer ≠ s.timerCmp := by intro h'; rw [← h'] at h; bv_omega
    rw [decide_eq_true h, decide_eq_true this, Bool.and_true]
  · rw [decide_eq_false h, Bool.and_false, Bool.and_false]

/-- One of the next `k` increments makes TIMER equal TIMERCMP. -/
def MatchesWithin (k : Nat) (s : State) : Prop :=
  s.par.hasTimerCmp = true ∧ ∃ j, 1 ≤ j ∧ j ≤ k ∧ s.timer + BitVec.ofNat 16 j = s.timerCmp

/-- Adding one and then `j` is adding `j + 1`. -/
theorem add_one_add_ofNat (x : Half) (j : Nat) :
    x + 1 + BitVec.ofNat 16 j = x + BitVec.ofNat 16 (j + 1) := by
  rw [BitVec.add_assoc]; congr 1; apply BitVec.eq_of_toNat_eq; simp; omega

theorem matchesWithin_succ (k : Nat) (s : State) :
    MatchesWithin (k + 1) s ↔ s.matchNext = true ∨ MatchesWithin k { s with timer := s.timer + 1 } := by
  unfold MatchesWithin
  rw [matchNext_eq]
  constructor
  · rintro ⟨h, j, h1, h2, h3⟩
    rcases Nat.lt_or_ge 1 j with hj | hj
    · refine .inr ⟨h, j - 1, by omega, by omega, ?_⟩
      show s.timer + 1 + _ = _
      rw [add_one_add_ofNat, show j - 1 + 1 = j by omega]; exact h3
    · obtain rfl : j = 1 := by omega
      left; simp [h]; exact h3
  · rintro (h | ⟨h, j, h1, h2, h3⟩)
    · simp at h; exact ⟨h.1, 1, by omega, by omega, h.2⟩
    · exact ⟨h, j + 1, by omega, by omega, by rw [← add_one_add_ofNat]; exact h3⟩

/-- All that several increments do: TIMER advances by their number and a match among them sets T_P, or with
WDOG = 1 such a match resets the core. -/
theorem tickMany_eq (k : Nat) (s : State) (b : Bool) (h : b = true ↔ MatchesWithin k s) :
    tickMany k s =
      if s.wdog && b then resetCore s
      else { s with timer := s.timer + BitVec.ofNat 16 k, tP := s.tP || (s.par.hasInt && b) } := by
  induction k generalizing s b with
  | zero =>
    obtain rfl : b = false := by
      cases b
      · rfl
      · obtain ⟨_, j, h1, h2, _⟩ := h.mp rfl; omega
    simp [tickMany]
  | succ k ih =>
    rw [matchesWithin_succ] at h
    unfold tickMany
    cases hm : s.matchNext
    · rw [hm] at h
      simp only [Bool.false_eq_true, false_or] at h
      have hw : s.watchdogNext = false := by simp [State.watchdogNext, hm]
      have e : tickOnce s = { s with timer := s.timer + 1 } := by simp [tickOnce, hw, hm]
      rw [hw, e, ih { s with timer := s.timer + 1 } b h]
      simp only [Bool.false_eq_true, if_false, add_one_add_ofNat]
      split <;> rfl
    · obtain rfl : b = true := h.mpr (.inl hm)
      cases hw : s.wdog
      · have hw' : s.watchdogNext = false := by simp [State.watchdogNext, hw]
        have e : tickOnce s = { s with timer := s.timer + 1, tP := s.tP || s.par.hasInt } := by
          simp [tickOnce, hw', hm]
        rw [hw', e]
        obtain ⟨c, hc⟩ : ∃ c : Bool, c = true ↔
            MatchesWithin k { s with timer := s.timer + 1, tP := s.tP || s.par.hasInt } := by
          by_cases h : MatchesWithin k { s with timer := s.timer + 1, tP := s.tP || s.par.hasInt }
          · exact ⟨true, fun _ => h, fun _ => rfl⟩
          · exact ⟨false, nofun, fun h' => absurd h' h⟩
        simp only [Bool.false_eq_true, if_false, Bool.false_and]
        rw [ih _ c hc]
        simp only [hw, Bool.false_and, Bool.false_eq_true, if_false, add_one_add_ofNat]
        cases s.tP <;> cases s.par.hasInt <;> simp
      · have hw' : s.watchdogNext = true := by simp [State.watchdogNext, hw, hm]
        simp [hw', tickOnce]

/-! ### Retiring an instruction -/

/-- Without single step, retiring an instruction is the timer's tick. -/
@[simp] theorem retire_not_armed (s : State) : retire false s = timerTick s := by
  unfold retire; cases s.par.stepAtReset <;> rfl

/-- By default the request is set after the tick, whatever the tick did. -/
theorem retire_follows {s : State} (h : s.par.stepAtReset = .follows) :
    retire true s = { timerTick s with swP := true } := by
  unfold retire; rw [h]; rfl

/-- Where the parameter drops the request at a reset, it is set before the tick. -/
theorem retire_dropped {s : State} (h : s.par.stepAtReset = .dropped) :
    retire true s = timerTick { s with swP := true } := by
  unfold retire; rw [h]; rfl

/-- All that retiring an instruction can do. -/
theorem retire_cases (armed : Bool) (s : State) :
    (armed = false ∧ retire armed s = timerTick s) ∨
      (armed = true ∧ s.par.stepAtReset = .follows ∧ retire armed s = { timerTick s with swP := true }) ∨
      (armed = true ∧ s.par.stepAtReset = .dropped ∧
        retire armed s = timerTick { s with swP := true }) := by
  cases armed
  · exact .inl ⟨rfl, retire_not_armed s⟩
  · cases h : s.par.stepAtReset
    · exact .inr (.inl ⟨rfl, rfl, retire_follows h⟩)
    · exact .inr (.inr ⟨rfl, rfl, retire_dropped h⟩)

/-! ### Fetch -/

/-- Moving the fetch position changes PC and NIB only. -/
theorem advanceBy_eq (n : Nat) (s : State) :
    State.advanceBy n s =
      { s with pc := (State.advanceBy n s).pc, nib := (State.advanceBy n s).nib } := by
  induction n generalizing s with
  | zero => rfl
  | succ n ih =>
    have h : s.advance = { s with pc := s.advance.pc, nib := s.advance.nib } := by
      unfold State.advance; split <;> rfl
    simp only [State.advanceBy]
    rw [ih s.advance]
    rw [h]

theorem immNibbles_le (i : Instr) : i.immNibbles ≤ 2 := by
  cases i <;> simp [Instr.immNibbles]

/-- The decoder on the next three nibbles of memory answers the instruction the step runs. -/
theorem decode_peek (c : DecodeCtx) (s : State) :
    decode c (State.peek 3 s) =
      .ok (decodeNibbles c s.nextNibble s.advance.nextNibble s.advance.advance.nextNibble,
        [s.advance.nextNibble, s.advance.advance.nextNibble].drop
          (decodeNibbles c s.nextNibble s.advance.nextNibble
            s.advance.advance.nextNibble).immNibbles) := by
  have h := immNibbles_le
    (decodeNibbles c s.nextNibble s.advance.nextNibble s.advance.advance.nextNibble)
  simp only [State.peek, decode, List.getD_cons_zero, List.getD_cons_succ, List.length_cons,
    List.length_nil]
  rw [if_neg (by omega)]

/-! ### The step -/

/-- All a step can do when it answers a next state: an environment reset, a step asleep, an interrupt
entry, or one instruction retired. -/
theorem stepWith_next {ex : Instr → State → Host.Outcome State Fault Refusal} {s t : State}
    (h : stepWith ex s = .next t) :
    (s.envReset = true ∧ t = resetCore s.takeEvent) ∨
      (s.envReset = false ∧ ∃ m, s.takeEvent.linkMode = some m ∧
        ((s.takeEvent.staysAsleep = true ∧ t = idleTick s.takeEvent) ∨
          (s.takeEvent.staysAsleep = false ∧ s.takeEvent.awaken.takesInterrupt = true ∧
            t = idleTick (trapEntry s.takeEvent.awaken)) ∨
          (s.takeEvent.staysAsleep = false ∧ s.takeEvent.awaken.takesInterrupt = false ∧
            ∃ u, ex (s.takeEvent.awaken.currentInstr m)
                (s.takeEvent.awaken.advanceBy (s.takeEvent.awaken.currentInstr m).nibbles) = .next u ∧
              t = retire s.takeEvent.awaken.armed u))) := by
  unfold stepWith at h
  split at h
  · rename_i hr
    cases h
    exact .inl ⟨hr, rfl⟩
  · rename_i hr
    unfold stepCore at h
    split at h
    · cases h
    · rename_i m hm
      refine .inr ⟨by simpa using hr, m, hm, ?_⟩
      split at h
      · rename_i ha
        cases h
        exact .inl ⟨ha, rfl⟩
      · rename_i ha
        split at h
        · rename_i hi
          cases h
          exact .inr (.inl ⟨by simpa using ha, hi, rfl⟩)
        · rename_i hi
          unfold stepInstr at h
          split at h
          · rename_i u hu
            cases h
            exact .inr (.inr ⟨by simpa using ha, by simpa using hi, u, hu, rfl⟩)
          · cases h
          · cases h

end Sys2Proof.Machine
end

