-- ==== Sys2Proof/Laws/PerInstr.lean ====
section
/-! SUPPORT. The family EncodingShape: what every instruction's encoding looks like, one lemma for each
constructor (30_encoding.md R110, R116, R117). -/

namespace Sys2Proof.Laws

/-- An encoding has one opcode nibble and the immediate nibbles of 30_encoding.md R117, at most two; the
assembler's form has one nibble more for an extended instruction. -/
def EncodingShape.Statement (i : Instr) : Prop :=
  (encode i).length = i.nibbles ∧
    (assemble i).length = i.nibbles + (if i.extended then 1 else 0) ∧ i.immNibbles ≤ 2

theorem EncodingShape.add : EncodingShape.Statement (.add) :=
  ⟨rfl, rfl, Nat.le_of_ble_eq_true rfl⟩

theorem EncodingShape.addi4 (imm : Nibble) : EncodingShape.Statement (.addi4 imm) :=
  ⟨rfl, rfl, Nat.le_of_ble_eq_true rfl⟩

theorem EncodingShape.addi8 (imm : Byte) : EncodingShape.Statement (.addi8 imm) :=
  ⟨rfl, rfl, Nat.le_of_ble_eq_true rfl⟩

theorem EncodingShape.sub : EncodingShape.Statement (.sub) :=
  ⟨rfl, rfl, Nat.le_of_ble_eq_true rfl⟩

theorem EncodingShape.subi4 (imm : Nibble) : EncodingShape.Statement (.subi4 imm) :=
  ⟨rfl, rfl, Nat.le_of_ble_eq_true rfl⟩

theorem EncodingShape.subi8 (imm : Byte) : EncodingShape.Statement (.subi8 imm) :=
  ⟨rfl, rfl, Nat.le_of_ble_eq_true rfl⟩

theorem EncodingShape.inc : EncodingShape.Statement (.inc) :=
  ⟨rfl, rfl, Nat.le_of_ble_eq_true rfl⟩

theorem EncodingShape.dec : EncodingShape.Statement (.dec) :=
  ⟨rfl, rfl, Nat.le_of_ble_eq_true rfl⟩

theorem EncodingShape.and_ : EncodingShape.Statement (.and_) :=
  ⟨rfl, rfl, Nat.le_of_ble_eq_true rfl⟩

theorem EncodingShape.andi4 (imm : Nibble) : EncodingShape.Statement (.andi4 imm) :=
  ⟨rfl, rfl, Nat.le_of_ble_eq_true rfl⟩

theorem EncodingShape.andi8 (imm : Byte) : EncodingShape.Statement (.andi8 imm) :=
  ⟨rfl, rfl, Nat.le_of_ble_eq_true rfl⟩

theorem EncodingShape.inv : EncodingShape.Statement (.inv) :=
  ⟨rfl, rfl, Nat.le_of_ble_eq_true rfl⟩

theorem EncodingShape.or_ : EncodingShape.Statement (.or_) :=
  ⟨rfl, rfl, Nat.le_of_ble_eq_true rfl⟩

theorem EncodingShape.ori4 (imm : Nibble) : EncodingShape.Statement (.ori4 imm) :=
  ⟨rfl, rfl, Nat.le_of_ble_eq_true rfl⟩

theorem EncodingShape.ori8 (imm : Byte) : EncodingShape.Statement (.ori8 imm) :=
  ⟨rfl, rfl, Nat.le_of_ble_eq_true rfl⟩

theorem EncodingShape.xor_ : EncodingShape.Statement (.xor_) :=
  ⟨rfl, rfl, Nat.le_of_ble_eq_true rfl⟩

theorem EncodingShape.xori4 (imm : Nibble) : EncodingShape.Statement (.xori4 imm) :=
  ⟨rfl, rfl, Nat.le_of_ble_eq_true rfl⟩

theorem EncodingShape.xori8 (imm : Byte) : EncodingShape.Statement (.xori8 imm) :=
  ⟨rfl, rfl, Nat.le_of_ble_eq_true rfl⟩

theorem EncodingShape.shl : EncodingShape.Statement (.shl) :=
  ⟨rfl, rfl, Nat.le_of_ble_eq_true rfl⟩

theorem EncodingShape.shr : EncodingShape.Statement (.shr) :=
  ⟨rfl, rfl, Nat.le_of_ble_eq_true rfl⟩

theorem EncodingShape.btst : EncodingShape.Statement (.btst) :=
  ⟨rfl, rfl, Nat.le_of_ble_eq_true rfl⟩

theorem EncodingShape.btsti4 (imm : Nibble) : EncodingShape.Statement (.btsti4 imm) :=
  ⟨rfl, rfl, Nat.le_of_ble_eq_true rfl⟩

theorem EncodingShape.btsti8 (imm : Byte) : EncodingShape.Statement (.btsti8 imm) :=
  ⟨rfl, rfl, Nat.le_of_ble_eq_true rfl⟩

theorem EncodingShape.tst : EncodingShape.Statement (.tst) :=
  ⟨rfl, rfl, Nat.le_of_ble_eq_true rfl⟩

theorem EncodingShape.tsti4 (imm : Nibble) : EncodingShape.Statement (.tsti4 imm) :=
  ⟨rfl, rfl, Nat.le_of_ble_eq_true rfl⟩

theorem EncodingShape.tsti8 (imm : Byte) : EncodingShape.Statement (.tsti8 imm) :=
  ⟨rfl, rfl, Nat.le_of_ble_eq_true rfl⟩

theorem EncodingShape.beqz4 (imm : Nibble) : EncodingShape.Statement (.beqz4 imm) :=
  ⟨rfl, rfl, Nat.le_of_ble_eq_true rfl⟩

theorem EncodingShape.beqz8 (imm : Byte) : EncodingShape.Statement (.beqz8 imm) :=
  ⟨rfl, rfl, Nat.le_of_ble_eq_true rfl⟩

theorem EncodingShape.bc4 (imm : Nibble) : EncodingShape.Statement (.bc4 imm) :=
  ⟨rfl, rfl, Nat.le_of_ble_eq_true rfl⟩

theorem EncodingShape.bc8 (imm : Byte) : EncodingShape.Statement (.bc8 imm) :=
  ⟨rfl, rfl, Nat.le_of_ble_eq_true rfl⟩

theorem EncodingShape.jal : EncodingShape.Statement (.jal) :=
  ⟨rfl, rfl, Nat.le_of_ble_eq_true rfl⟩

theorem EncodingShape.jmp : EncodingShape.Statement (.jmp) :=
  ⟨rfl, rfl, Nat.le_of_ble_eq_true rfl⟩

theorem EncodingShape.cmp : EncodingShape.Statement (.cmp) :=
  ⟨rfl, rfl, Nat.le_of_ble_eq_true rfl⟩

theorem EncodingShape.cfg (imm : Byte) : EncodingShape.Statement (.cfg imm) :=
  ⟨rfl, rfl, Nat.le_of_ble_eq_true rfl⟩

theorem EncodingShape.racc : EncodingShape.Statement (.racc) :=
  ⟨rfl, rfl, Nat.le_of_ble_eq_true rfl⟩

theorem EncodingShape.rrs : EncodingShape.Statement (.rrs) :=
  ⟨rfl, rfl, Nat.le_of_ble_eq_true rfl⟩

theorem EncodingShape.csrld (idx : Nibble) : EncodingShape.Statement (.csrld idx) :=
  ⟨rfl, rfl, Nat.le_of_ble_eq_true rfl⟩

theorem EncodingShape.csrst (idx : Nibble) : EncodingShape.Statement (.csrst idx) :=
  ⟨rfl, rfl, Nat.le_of_ble_eq_true rfl⟩

theorem EncodingShape.nop0110 : EncodingShape.Statement (.nop0110) :=
  ⟨rfl, rfl, Nat.le_of_ble_eq_true rfl⟩

theorem EncodingShape.nop0110x : EncodingShape.Statement (.nop0110x) :=
  ⟨rfl, rfl, Nat.le_of_ble_eq_true rfl⟩

theorem EncodingShape.rss : EncodingShape.Statement (.rss) :=
  ⟨rfl, rfl, Nat.le_of_ble_eq_true rfl⟩

theorem EncodingShape.rsa : EncodingShape.Statement (.rsa) :=
  ⟨rfl, rfl, Nat.le_of_ble_eq_true rfl⟩

theorem EncodingShape.ss : EncodingShape.Statement (.ss) :=
  ⟨rfl, rfl, Nat.le_of_ble_eq_true rfl⟩

theorem EncodingShape.sa : EncodingShape.Statement (.sa) :=
  ⟨rfl, rfl, Nat.le_of_ble_eq_true rfl⟩

theorem EncodingShape.ldi4 (imm : Nibble) : EncodingShape.Statement (.ldi4 imm) :=
  ⟨rfl, rfl, Nat.le_of_ble_eq_true rfl⟩

theorem EncodingShape.ldi8 (imm : Byte) : EncodingShape.Statement (.ldi8 imm) :=
  ⟨rfl, rfl, Nat.le_of_ble_eq_true rfl⟩

theorem EncodingShape.clc : EncodingShape.Statement (.clc) :=
  ⟨rfl, rfl, Nat.le_of_ble_eq_true rfl⟩

theorem EncodingShape.rsv0100 : EncodingShape.Statement (.rsv0100) :=
  ⟨rfl, rfl, Nat.le_of_ble_eq_true rfl⟩

theorem EncodingShape.xmem (op : MemOp) (post : Bool) (dir : StrideDir) (ar : AddrReg) : EncodingShape.Statement (.xmem op post dir ar) :=
  ⟨rfl, rfl, Nat.le_of_ble_eq_true rfl⟩

theorem EncodingShape.xop : EncodingShape.Statement (.xop) :=
  ⟨rfl, rfl, Nat.le_of_ble_eq_true rfl⟩

theorem EncodingShape.nop : EncodingShape.Statement (.nop) :=
  ⟨rfl, rfl, Nat.le_of_ble_eq_true rfl⟩

theorem EncodingShape.reti : EncodingShape.Statement (.reti) :=
  ⟨rfl, rfl, Nat.le_of_ble_eq_true rfl⟩

theorem EncodingShape.swi : EncodingShape.Statement (.swi) :=
  ⟨rfl, rfl, Nat.le_of_ble_eq_true rfl⟩

theorem EncodingShape.wfi : EncodingShape.Statement (.wfi) :=
  ⟨rfl, rfl, Nat.le_of_ble_eq_true rfl⟩

theorem EncodingShape.mad (shift : MadShift) (sat : Bool) (lane : Lane) : EncodingShape.Statement (.mad shift sat lane) :=
  ⟨rfl, rfl, Nat.le_of_ble_eq_true rfl⟩

theorem EncodingShape.max_ : EncodingShape.Statement (.max_) :=
  ⟨rfl, rfl, Nat.le_of_ble_eq_true rfl⟩

theorem EncodingShape.min_ : EncodingShape.Statement (.min_) :=
  ⟨rfl, rfl, Nat.le_of_ble_eq_true rfl⟩

theorem EncodingShape.rsv1100 : EncodingShape.Statement (.rsv1100) :=
  ⟨rfl, rfl, Nat.le_of_ble_eq_true rfl⟩

theorem EncodingShape.rsv1000 : EncodingShape.Statement (.rsv1000) :=
  ⟨rfl, rfl, Nat.le_of_ble_eq_true rfl⟩

theorem EncodingShape.rsv0000 : EncodingShape.Statement (.rsv0000) :=
  ⟨rfl, rfl, Nat.le_of_ble_eq_true rfl⟩

end Sys2Proof.Laws
end

