-- ==== Sys2Proof/Tests/Slice0.lean ====
section
/-! SUPPORT. Tests of the model: ill-formed terms refused, every constructor decoded from a word written out
from 30_encoding.md sections 2 to 6, one step of each instruction with the expected result taken from
95_test_vectors.md (the vector's id is in the comment; "rule" means computed by hand from the rule), and a
witness for the hypotheses of each statement. -/

namespace Sys2Proof.Tests

open Sys2Proof Sys2Proof.Machine

/-! ### Helpers -/

/-- The default parameters with the MAD profile. -/
def madPar : Config := { Config.default with hasMad := true }

/-- The default parameters with CSR access, interrupts and CLC left out. -/
def barePar : Config := { Config.default with hasCsr := false, hasInt := false, hasClc := false }

/-- The default parameters with the timer and its compare register. -/
def timerPar : Config := { Config.default with hasTimer := true, hasTimerCmp := true }

/-- A decode context from a configuration, a column, a CFG byte and a link mode. -/
def ctx (p : Config) (ext : Bool) (cfg : Byte) (m : LinkMode) : DecodeCtx := decodeCtxOf p ext cfg m

/-- A state at byte address 0x0100, phase 0, with a CFG byte and XOPP. -/
def at100 (cfg : Byte) (ext : Bool) : State := { State.reset with cfg := cfg, xopp := ext, pc := 0x0100 }

/-- One step of the machine on a stream stored at the fetch position. -/
def run (s : State) (ns : List Nibble) : Host.Outcome State Fault Refusal :=
  step { s with mem := pokeNibbles ns s }

/-- Whether a step answers a next state of which a check holds. -/
def nextHas (check : State → Bool) (o : Host.Outcome State Fault Refusal) : Bool :=
  match o with
  | .next t => check t
  | .fault _ => false
  | .refused _ => false

/-! ### Well-formedness: an ill-formed term for each check -/

/-- A register form in the wrong column. -/
theorem test_wf_regForm_column :
    Instr.wellFormed (ctx Config.default true 0x00 .ul) .add = false ∧
    Instr.wellFormed (ctx Config.default false 0x00 .ul) .sub = false := by decide

/-- A register form with CFG.IMM = 1. -/
theorem test_wf_regForm_imm :
    ∀ i ∈ [Instr.add, .and_, .or_, .btst], Instr.wellFormed (ctx Config.default false 0x08 .ul) i = false := by decide

/-- An extended register form with CFG.IMM = 1. -/
theorem test_wf_regForm_imm_extended :
    ∀ i ∈ [Instr.sub, .xor_, .tst], Instr.wellFormed (ctx Config.default true 0x08 .ul) i = false := by decide

/-- An immediate form with CFG.IMM = 0. -/
theorem test_wf_immForm_register :
    ∀ i ∈ [Instr.addi4 1, .andi4 1, .ori4 1, .btsti4 1], Instr.wellFormed (ctx Config.default false 0x00 .ul) i = false := by decide

/-- A one-nibble immediate where IMM_NIBBLES(W) = 2. -/
theorem test_wf_immForm_one :
    ∀ i ∈ [Instr.addi4 1, .andi4 1, .ori4 1, .btsti4 1, .ldi4 1], Instr.wellFormed (ctx Config.default false 0x09 .lk8) i = false := by decide

/-- A two-nibble immediate where IMM_NIBBLES(W) = 1. -/
theorem test_wf_immForm_two :
    ∀ i ∈ [Instr.addi8 1, .andi8 1, .ori8 1, .btsti8 1, .ldi8 1], Instr.wellFormed (ctx Config.default false 0x08 .ul) i = false := by decide

/-- Extended immediate forms of the other length. -/
theorem test_wf_immForm_extended :
    (∀ i ∈ [Instr.subi4 1, .xori4 1, .tsti4 1], Instr.wellFormed (ctx Config.default true 0x09 .lk8) i = false) ∧
    ∀ i ∈ [Instr.subi8 1, .xori8 1, .tsti8 1], Instr.wellFormed (ctx Config.default true 0x08 .ul) i = false := by decide

/-- Default rows in the Extended column. -/
theorem test_wf_default_column :
    ∀ i ∈ [Instr.inc, .shl, .jal, .cmp, .rss, .ss, .xop, .nop, .xmem .load false .up .ra0,
      .racc, .csrld 0, .nop0110, .ldi4 0, .beqz4 0], Instr.wellFormed (ctx Config.default true 0x00 .ul) i = false := by decide

/-- Extended rows in the Default column. -/
theorem test_wf_extended_column :
    ∀ i ∈ [Instr.dec, .inv, .shr, .jmp, .cfg 0, .rsa, .sa, .clc, .rsv0100, .reti, .swi, .wfi,
      .rrs, .csrst 0, .nop0110x, .bc4 0], Instr.wellFormed (ctx Config.default false 0x00 .ul) i = false := by decide

/-- A branch immediate of the length CFG.BW does not give. -/
theorem test_wf_branch_length :
    Instr.wellFormed (ctx Config.default false 0x40 .ul) (.beqz4 1) = false ∧
    Instr.wellFormed (ctx Config.default false 0x00 .ul) (.beqz8 1) = false ∧
    Instr.wellFormed (ctx Config.default true 0x40 .ul) (.bc4 1) = false ∧
    Instr.wellFormed (ctx Config.default true 0x00 .ul) (.bc8 1) = false := by decide

/-- Opcode 0110: the width and the CSR parameter of each row. -/
theorem test_wf_opcode0110 :
    Instr.wellFormed (ctx Config.default false 0x02 .lk16) .racc = false ∧
    Instr.wellFormed (ctx Config.default true 0x02 .lk16) .rrs = false ∧
    Instr.wellFormed (ctx Config.default false 0x01 .lk8) (.csrld 1) = false ∧
    Instr.wellFormed (ctx Config.default true 0x01 .lk8) (.csrst 1) = false ∧
    Instr.wellFormed (ctx barePar false 0x02 .lk16) (.csrld 1) = false ∧
    Instr.wellFormed (ctx barePar true 0x02 .lk16) (.csrst 1) = false ∧
    Instr.wellFormed (ctx Config.default false 0x02 .lk16) .nop0110 = false ∧
    Instr.wellFormed (ctx Config.default true 0x02 .lk16) .nop0110x = false := by decide

/-- CLC without its parameter, and the reserved row with it. -/
theorem test_wf_clc :
    Instr.wellFormed (ctx barePar true 0x00 .ul) .clc = false ∧
    Instr.wellFormed (ctx Config.default true 0x00 .ul) .rsv0100 = false := by decide

/-- The profile rows: the wrong link mode, and the absent or present profile. -/
theorem test_wf_profiles :
    (∀ i ∈ [Instr.reti, .swi, .wfi, .rsv1100, .rsv1000, .rsv0000], Instr.wellFormed (ctx madPar true 0x03 .spe) i = false) ∧
    (∀ i ∈ [Instr.reti, .swi, .wfi], Instr.wellFormed (ctx barePar true 0x00 .ul) i = false) ∧
    (∀ i ∈ [Instr.rsv1100, .rsv1000, .rsv0000], Instr.wellFormed (ctx Config.default true 0x00 .ul) i = false) ∧
    ∀ i ∈ [Instr.mad .by0 false .low, .max_, .min_], Instr.wellFormed (ctx madPar true 0x02 .lk16) i = false := by decide

/-! ### Decoding: a word of each constructor, written out from the opcode map and the formats -/

theorem test_decode_add :
    decode (ctx Config.default false 0x00 .ul) [0b0001] = .ok (.add, []) := rfl

theorem test_decode_addi4 :
    decode (ctx Config.default false 0x08 .ul) [0b0001, 0b0110] = .ok (.addi4 6, []) := rfl

theorem test_decode_addi8 :
    decode (ctx Config.default false 0x09 .lk8) [0b0001, 0b0101, 0b1010] = .ok (.addi8 0xA5, []) := rfl

theorem test_decode_sub :
    decode (ctx Config.default true 0x00 .ul) [0b0001] = .ok (.sub, []) := rfl

theorem test_decode_subi4 :
    decode (ctx Config.default true 0x08 .ul) [0b0001, 0b1001] = .ok (.subi4 9, []) := rfl

theorem test_decode_subi8 :
    decode (ctx Config.default true 0x0A .lk16) [0b0001, 0b1110, 0b0001] = .ok (.subi8 0x1E, []) := rfl

theorem test_decode_inc :
    decode (ctx Config.default false 0x00 .ul) [0b1001] = .ok (.inc, []) := rfl

theorem test_decode_dec :
    decode (ctx Config.default true 0x00 .ul) [0b1001] = .ok (.dec, []) := rfl

theorem test_decode_and :
    decode (ctx Config.default false 0x00 .ul) [0b0101] = .ok (.and_, []) := rfl

theorem test_decode_andi4 :
    decode (ctx Config.default false 0x08 .ul) [0b0101, 0b0011] = .ok (.andi4 3, []) := rfl

theorem test_decode_andi8 :
    decode (ctx Config.default false 0x0A .lk16) [0b0101, 0b1111, 0b0000] = .ok (.andi8 0x0F, []) := rfl

theorem test_decode_inv :
    decode (ctx Config.default true 0x08 .ul) [0b0101] = .ok (.inv, []) := rfl

theorem test_decode_or :
    decode (ctx Config.default false 0x00 .ul) [0b1101] = .ok (.or_, []) := rfl

theorem test_decode_ori4 :
    decode (ctx Config.default false 0x08 .ul) [0b1101, 0b1000] = .ok (.ori4 8, []) := rfl

theorem test_decode_ori8 :
    decode (ctx Config.default false 0x09 .lk8) [0b1101, 0b0010, 0b0100] = .ok (.ori8 0x42, []) := rfl

theorem test_decode_xor :
    decode (ctx Config.default true 0x00 .ul) [0b1101] = .ok (.xor_, []) := rfl

theorem test_decode_xori4 :
    decode (ctx Config.default true 0x08 .ul) [0b1101, 0b0101] = .ok (.xori4 5, []) := rfl

theorem test_decode_xori8 :
    decode (ctx Config.default true 0x09 .lk8) [0b1101, 0b1100, 0b0011] = .ok (.xori8 0x3C, []) := rfl

theorem test_decode_shl :
    decode (ctx Config.default false 0x00 .ul) [0b0011] = .ok (.shl, []) := rfl

theorem test_decode_shr :
    decode (ctx Config.default true 0x00 .ul) [0b0011] = .ok (.shr, []) := rfl

theorem test_decode_btst :
    decode (ctx Config.default false 0x00 .ul) [0b1011] = .ok (.btst, []) := rfl

theorem test_decode_btsti4 :
    decode (ctx Config.default false 0x08 .ul) [0b1011, 0b0111] = .ok (.btsti4 7, []) := rfl

theorem test_decode_btsti8 :
    decode (ctx Config.default false 0x09 .lk8) [0b1011, 0b0011, 0b1111] = .ok (.btsti8 0xF3, []) := rfl

theorem test_decode_tst :
    decode (ctx Config.default true 0x00 .ul) [0b1011] = .ok (.tst, []) := rfl

theorem test_decode_tsti4 :
    decode (ctx Config.default true 0x08 .ul) [0b1011, 0b0001] = .ok (.tsti4 1, []) := rfl

theorem test_decode_tsti8 :
    decode (ctx Config.default true 0x09 .lk8) [0b1011, 0b0000, 0b1000] = .ok (.tsti8 0x80, []) := rfl

theorem test_decode_beqz4 :
    decode (ctx Config.default false 0x00 .ul) [0b0111, 0b1110] = .ok (.beqz4 0xE, []) := rfl

theorem test_decode_beqz8 :
    decode (ctx Config.default false 0x40 .ul) [0b0111, 0b0000, 0b1000] = .ok (.beqz8 0x80, []) := rfl

theorem test_decode_bc4 :
    decode (ctx Config.default true 0x00 .ul) [0b0111, 0b1101] = .ok (.bc4 0xD, []) := rfl

theorem test_decode_bc8 :
    decode (ctx Config.default true 0x60 .ul) [0b0111, 0b0100, 0b0000] = .ok (.bc8 0x04, []) := rfl

theorem test_decode_jal :
    decode (ctx Config.default false 0x00 .ul) [0b1111] = .ok (.jal, []) := rfl

theorem test_decode_jmp :
    decode (ctx Config.default true 0x00 .ul) [0b1111] = .ok (.jmp, []) := rfl

theorem test_decode_cmp :
    decode (ctx Config.default false 0x08 .ul) [0b0010] = .ok (.cmp, []) := rfl

theorem test_decode_cfg :
    decode (ctx Config.default true 0x00 .ul) [0b0010, 0b0001, 0b0100] = .ok (.cfg 0x41, []) := rfl

theorem test_decode_racc :
    decode (ctx Config.default false 0x01 .lk8) [0b0110] = .ok (.racc, []) := rfl

theorem test_decode_rrs :
    decode (ctx Config.default true 0x00 .ul) [0b0110] = .ok (.rrs, []) := rfl

theorem test_decode_csrld :
    decode (ctx Config.default false 0x02 .lk16) [0b0110, 0b0011] = .ok (.csrld 3, []) := rfl

theorem test_decode_csrst :
    decode (ctx madPar true 0x03 .spe) [0b0110, 0b0100] = .ok (.csrst 4, []) := rfl

theorem test_decode_nop0110 :
    decode (ctx barePar false 0x02 .lk16) [0b0110] = .ok (.nop0110, []) := rfl

theorem test_decode_nop0110x :
    decode (ctx barePar true 0x02 .lk16) [0b0110] = .ok (.nop0110x, []) := rfl

theorem test_decode_rss :
    decode (ctx Config.default false 0x00 .ul) [0b1010] = .ok (.rss, []) := rfl

theorem test_decode_rsa :
    decode (ctx Config.default true 0x00 .ul) [0b1010] = .ok (.rsa, []) := rfl

theorem test_decode_ss :
    decode (ctx Config.default false 0x00 .ul) [0b1110] = .ok (.ss, []) := rfl

theorem test_decode_sa :
    decode (ctx Config.default true 0x00 .ul) [0b1110] = .ok (.sa, []) := rfl

theorem test_decode_ldi4 :
    decode (ctx Config.default false 0x00 .ul) [0b0100, 0b0101] = .ok (.ldi4 5, []) := rfl

theorem test_decode_ldi8 :
    decode (ctx Config.default false 0x01 .lk8) [0b0100, 0b0101, 0b1010] = .ok (.ldi8 0xA5, []) := rfl

theorem test_decode_clc :
    decode (ctx Config.default true 0x08 .ul) [0b0100] = .ok (.clc, []) := rfl

theorem test_decode_rsv0100 :
    decode (ctx barePar true 0x00 .ul) [0b0100] = .ok (.rsv0100, []) := rfl

theorem test_decode_xmem :
    decode (ctx Config.default false 0x00 .ul) [0b1100, 0b1001] = .ok (.xmem .store false .up .ra1, []) := rfl

theorem test_decode_xop :
    decode (ctx Config.default false 0x00 .ul) [0b1000] = .ok (.xop, []) := rfl

theorem test_decode_nop :
    decode (ctx Config.default false 0x00 .ul) [0b0000] = .ok (.nop, []) := rfl

theorem test_decode_reti :
    decode (ctx Config.default true 0x00 .ul) [0b1100] = .ok (.reti, []) := rfl

theorem test_decode_swi :
    decode (ctx Config.default true 0x00 .ul) [0b1000] = .ok (.swi, []) := rfl

theorem test_decode_wfi :
    decode (ctx Config.default true 0x00 .ul) [0b0000] = .ok (.wfi, []) := rfl

theorem test_decode_mad :
    decode (ctx madPar true 0x03 .spe) [0b1100, 0b1011] = .ok (.mad .by2 true .high, []) := rfl

theorem test_decode_max :
    decode (ctx madPar true 0x03 .spe) [0b1000] = .ok (.max_, []) := rfl

theorem test_decode_min :
    decode (ctx madPar true 0x03 .spe) [0b0000] = .ok (.min_, []) := rfl

theorem test_decode_rsv1100 :
    decode (ctx barePar true 0x00 .ul) [0b1100] = .ok (.rsv1100, []) := rfl

theorem test_decode_rsv1000 :
    decode (ctx barePar true 0x00 .ul) [0b1000] = .ok (.rsv1000, []) := rfl

theorem test_decode_rsv0000 :
    decode (ctx barePar true 0x00 .ul) [0b0000] = .ok (.rsv0000, []) := rfl

/-- The XMEM function nibble, bit by bit: OP, AM, DIR, AR (30_encoding.md R128). -/
theorem test_decode_xmem_bits :
    decode (ctx Config.default false 0x00 .ul) [0b1100, 0b0100] = .ok (.xmem .load true .up .ra0, []) ∧
    decode (ctx Config.default false 0x00 .ul) [0b1100, 0b0010] = .ok (.xmem .load false .down .ra0, []) ∧
    decode (ctx Config.default false 0x00 .ul) [0b1100, 0b0001] = .ok (.xmem .load false .up .ra1, []) :=
  ⟨rfl, rfl, rfl⟩

/-- The MAD control nibble: SHIFT code 11 is 4 (30_encoding.md R129). -/
theorem test_decode_mad_bits :
    decode (ctx madPar true 0x03 .spe) [0b1100, 0b1100] = .ok (.mad .by4 false .low, []) ∧
    decode (ctx madPar true 0x03 .spe) [0b1100, 0b0100] = .ok (.mad .by1 false .low, []) ∧
    decode (ctx madPar true 0x03 .spe) [0b1100, 0b0001] = .ok (.mad .by0 false .high, []) :=
  ⟨rfl, rfl, rfl⟩

/-- A stream that ends inside an instruction is rejected by name. -/
theorem test_decode_truncated :
    decode (ctx Config.default true 0x00 .ul) [0b0010, 0b0001] = .error .truncated ∧
    decode (ctx Config.default true 0x00 .ul) [] = .error .truncated := ⟨rfl, rfl⟩

/-- CFG #41 assembles to the bytes 28 41 (vector V-G1). -/
theorem test_assemble_cfg :
    assemble (.cfg 0x41) = [0b1000, 0b0010, 0b0001, 0b0100] ∧
    byteOfNibbles .lowFirst 0b1000 0b0010 = 0x28 ∧ byteOfNibbles .lowFirst 0b0001 0b0100 = 0x41 :=
  ⟨rfl, rfl, rfl⟩

/-- The decode context of a table word is that of the reset state. -/
theorem test_resetCtx : State.reset.linkMode = some .ul ∧ State.reset.decodeCtx .ul = resetCtx false :=
  ⟨rfl, rfl⟩

/-- A table word of a Default row, and one of an extended row written with its XOP nibble. -/
theorem test_decodeTableWord :
    decodeTableWord 8 0b1001 = some .inc ∧ decodeTableWord 8 0b10011000 = some .dec ∧
    decodeTableWord 16 0x4128 = some (.cfg 0x41) := ⟨rfl, rfl, rfl⟩

/-- A table word stored at the fetch position is what the next step runs (INC, and DEC in the Extended
column). -/
theorem test_withFetchWord :
    nextHas (fun t => t.acc == 1) (step (State.reset.withFetchWord 8 0b1001)) = true ∧
    nextHas (fun t => t.acc == 0xF) (step (State.reset.withFetchWord 8 0b10011000)) = true := by
  decide

/-! ### One step of each instruction -/

/-- V-A1. -/
theorem test_step_add :
    nextHas (fun t => t.acc == 0x0001 && t.c && !t.n && t.v && t.nib)
      (run { at100 0x00 false with
        acc := 0x0009, rs0 := 0x0008 } [0b0001]) = true := by decide

/-- V-A2. -/
theorem test_step_add_carry_in :
    nextHas (fun t => t.acc == 0x00F0 && t.c && !t.n && !t.v)
      (run { at100 0x80 false with
        acc := 0x00FF, rs0 := 0x0000, c := true } [0b0001]) = true := by decide

/-- V-A5. -/
theorem test_step_addi4 :
    nextHas (fun t => t.acc == 0x000E && !t.c && t.n && t.v && t.pc == 0x0101)
      (run { at100 0x08 false with
        acc := 0x0007 } [0b0001, 0b0111]) = true := by decide

/-- V-A4. -/
theorem test_step_addi8 :
    nextHas (fun t => t.acc == 0x0000 && t.c && !t.n && !t.v)
      (run { at100 0x0A false with
        acc := 0xFF01 } [0b0001, 0b1111, 0b1111]) = true := by decide

/-- V-A6. -/
theorem test_step_sub :
    nextHas (fun t => t.acc == 0x00F0 && !t.c && t.n && !t.v)
      (run { at100 0x01 true with
        acc := 0x0010, rs0 := 0x0020 } [0b0001]) = true := by decide

/-- V-A7. -/
theorem test_step_sub_borrow_in :
    nextHas (fun t => t.acc == 0xFFFF && !t.c && t.n)
      (run { at100 0x82 true with
        acc := 0x0000, rs0 := 0x0000, c := false } [0b0001]) = true := by decide

/-- V-A9. -/
theorem test_step_subi4 :
    nextHas (fun t => t.acc == 0x000F && !t.c && t.n && !t.v)
      (run { at100 0x08 true with
        acc := 0x0000 } [0b0001, 0b0001]) = true := by decide

/-- rule R152: 0x1234 - 0x00FF. -/
theorem test_step_subi8 :
    nextHas (fun t => t.acc == 0x1135 && t.c && !t.n && !t.v)
      (run { at100 0x0A true with
        acc := 0x1234 } [0b0001, 0b1111, 0b1111]) = true := by decide

/-- V-A10. -/
theorem test_step_inc :
    nextHas (fun t => t.acc == 0x1230 && t.c && !t.n && !t.v)
      (run { at100 0x00 false with
        acc := 0x123F } [0b1001]) = true := by decide

/-- V-A11. -/
theorem test_step_inc_overflow :
    nextHas (fun t => t.acc == 0x0080 && !t.c && t.n && t.v)
      (run { at100 0x01 false with
        acc := 0x007F } [0b1001]) = true := by decide

/-- V-A12. -/
theorem test_step_dec :
    nextHas (fun t => t.acc == 0xFFFF && !t.c && t.n && !t.v)
      (run { at100 0x02 true with
        acc := 0x0000 } [0b1001]) = true := by decide

/-- V-A13. -/
theorem test_step_dec_overflow :
    nextHas (fun t => t.acc == 0x0007 && t.c && !t.n && t.v)
      (run { at100 0x00 true with
        acc := 0x0008 } [0b1001]) = true := by decide

/-- V-L1. -/
theorem test_step_and :
    nextHas (fun t => t.acc == 0xAB0C)
      (run { at100 0x01 false with
        acc := 0xAB3C, rs0 := 0xFF0F } [0b0101]) = true := by decide

/-- rule R170: C and 6 in UL. -/
theorem test_step_andi4 :
    nextHas (fun t => t.acc == 0x1234)
      (run { at100 0x08 false with
        acc := 0x123C } [0b0101, 0b0110]) = true := by decide

/-- V-L2. -/
theorem test_step_andi8 :
    nextHas (fun t => t.acc == 0x000D && t.pc == 0x0101 && t.nib)
      (run { at100 0x0A false with
        acc := 0xABCD } [0b0101, 0b1111, 0b0000]) = true := by decide

/-- V-L4. -/
theorem test_step_inv :
    nextHas (fun t => t.acc == 0x00AA && t.pc == 0x0100 && t.nib)
      (run { at100 0x08 true with
        acc := 0x00A5 } [0b0101]) = true := by decide

/-- rule R172: 5 or A in UL. -/
theorem test_step_or :
    nextHas (fun t => t.acc == 0x123F)
      (run { at100 0x00 false with
        acc := 0x1235, rs0 := 0xFFFA } [0b1101]) = true := by decide

/-- V-L5. -/
theorem test_step_ori4 :
    nextHas (fun t => t.acc == 0x0009)
      (run { at100 0x08 false with
        acc := 0x0001 } [0b1101, 0b1000]) = true := by decide

/-- rule R172: imm8 in LK8. -/
theorem test_step_ori8 :
    nextHas (fun t => t.acc == 0x1281)
      (run { at100 0x09 false with
        acc := 0x1201 } [0b1101, 0b0000, 0b1000]) = true := by decide

/-- V-L6. -/
theorem test_step_xor :
    nextHas (fun t => t.acc == 0xF0F0)
      (run { at100 0x02 true with
        acc := 0xFFFF, rs0 := 0x0F0F } [0b1101]) = true := by decide

/-- rule R173: 6 xor 5 in UL. -/
theorem test_step_xori4 :
    nextHas (fun t => t.acc == 0x1233)
      (run { at100 0x08 true with
        acc := 0x1236 } [0b1101, 0b0101]) = true := by decide

/-- V-L7. -/
theorem test_step_xori8 :
    nextHas (fun t => t.acc == 0x125A)
      (run { at100 0x09 true with
        acc := 0x12A5 } [0b1101, 0b1111, 0b1111]) = true := by decide

/-- V-S1. -/
theorem test_step_shl :
    nextHas (fun t => t.acc == 0x00C2 && t.c)
      (run { at100 0x00 false with
        acc := 0x00C9 } [0b0011]) = true := by decide

/-- V-S3. -/
theorem test_step_shl_no_carry_in :
    nextHas (fun t => t.acc == 0x0000 && t.c)
      (run { at100 0x82 false with
        acc := 0x8000, c := true } [0b0011]) = true := by decide

/-- V-S2. -/
theorem test_step_shr :
    nextHas (fun t => t.acc == 0x1240 && t.c)
      (run { at100 0x01 true with
        acc := 0x1281 } [0b0011]) = true := by decide

/-- V-S4. -/
theorem test_step_shr_logical :
    nextHas (fun t => t.acc == 0x4000 && t.c)
      (run { at100 0x06 true with
        acc := 0x8001 } [0b0011]) = true := by decide

/-- V-B2. -/
theorem test_step_btst :
    nextHas (fun t => t.c)
      (run { at100 0x00 false with
        acc := 0x8000, rs0 := 0x123F } [0b1011]) = true := by decide

/-- V-B1. -/
theorem test_step_btsti4 :
    nextHas (fun t => t.c && t.acc == 0x0080)
      (run { at100 0x08 false with
        acc := 0x0080 } [0b1011, 0b0111]) = true := by decide

/-- V-B3. -/
theorem test_step_btsti8 :
    nextHas (fun t => t.c && t.pc == 0x0101)
      (run { at100 0x09 false with
        acc := 0x0008 } [0b1011, 0b0011, 0b1111]) = true := by decide

/-- V-B4. -/
theorem test_step_tst :
    nextHas (fun t => !t.c)
      (run { at100 0x01 true with
        acc := 0xFF10, rs0 := 0x00EF, c := true } [0b1011]) = true := by decide

/-- V-B6. -/
theorem test_step_tst_active_width :
    nextHas (fun t => !t.c)
      (run { at100 0x00 true with
        acc := 0x00F0, rs0 := 0xFFFF, c := true } [0b1011]) = true := by decide

/-- V-B5. -/
theorem test_step_tsti4 :
    nextHas (fun t => t.c)
      (run { at100 0x08 true with
        acc := 0x00F1 } [0b1011, 0b0001]) = true := by decide

/-- rule R193: bit 7 in LK8. -/
theorem test_step_tsti8 :
    nextHas (fun t => t.c)
      (run { at100 0x09 true with
        acc := 0x0080 } [0b1011, 0b0000, 0b1000]) = true := by decide

/-- V-BR1. -/
theorem test_step_beqz4_taken :
    nextHas (fun t => t.pc == 0x000F && !t.nib)
      (run { at100 0x00 false with
        pc := 0x0010, acc := 0x0010 } [0b0111, 0b1110]) = true := by decide

/-- V-BR3. -/
theorem test_step_beqz4_not_taken :
    nextHas (fun t => t.pc == 0x0011 && !t.nib)
      (run { at100 0x00 false with
        pc := 0x0010, acc := 0x0001 } [0b0111, 0b1110]) = true := by decide

/-- V-BR8. -/
theorem test_step_beqz8_taken :
    nextHas (fun t => t.pc == 0x0182 && !t.nib)
      (run { at100 0x40 false with
        pc := 0x0200, acc := 0x0000 } [0b0111, 0b0000, 0b1000]) = true := by decide

/-- rule R211: Z of the CMP is tested, not A. -/
theorem test_step_beqz8_after_cmp :
    nextHas (fun t => t.pc == 0x0182 && !t.z && !t.cmpp)
      (run { at100 0x40 false with
        pc := 0x0200, acc := 0x0042, cmpp := true, z := true } [0b0111, 0b0000, 0b1000]) = true := by decide

/-- P1 at 0002.1. -/
theorem test_step_bc4_taken :
    nextHas (fun t => t.pc == 0x0001 && !t.nib)
      (run { at100 0x00 true with
        pc := 0x0002, nib := true, c := true } [0b0111, 0b1101]) = true := by decide

/-- P1 at 0002.1. -/
theorem test_step_bc4_not_taken :
    nextHas (fun t => t.pc == 0x0003 && t.nib)
      (run { at100 0x00 true with
        pc := 0x0002, nib := true, c := false } [0b0111, 0b1101]) = true := by decide

/-- V-BR5. -/
theorem test_step_bc8_taken :
    nextHas (fun t => t.pc == 0x0112 && !t.nib)
      (run { at100 0x60 true with
        pc := 0x0100, nib := true, c := true } [0b0111, 0b0100, 0b0000]) = true := by decide

/-- V-BR6. -/
theorem test_step_bc8_not_taken :
    nextHas (fun t => t.pc == 0x0102 && !t.nib)
      (run { at100 0x60 true with
        pc := 0x0100, nib := true, c := false } [0b0111, 0b0100, 0b0000]) = true := by decide

/-- V-J1. -/
theorem test_step_jal :
    nextHas (fun t => t.pc == 0x0300 && t.ra1 == 0x0021 && t.ra0 == 0x0300)
      (run { at100 0x00 false with
        pc := 0x0020, ra0 := 0x0300 } [0b1111]) = true := by decide

/-- V-J4. -/
theorem test_step_jal_wrap :
    nextHas (fun t => t.pc == 0x0300 && t.ra1 == 0x0000)
      (run { at100 0x00 false with
        pc := 0xFFFF, nib := true, ra0 := 0x0300 } [0b1111]) = true := by decide

/-- V-J3. -/
theorem test_step_jmp :
    nextHas (fun t => t.pc == 0xFFFE && !t.nib && t.ra1 == 0x1111)
      (run { at100 0x00 true with
        pc := 0x0020, nib := true, ra0 := 0xFFFE, ra1 := 0x1111 } [0b1111]) = true := by decide

/-- V-M1. -/
theorem test_step_cmp :
    nextHas (fun t => t.c && t.z && t.cmpp && !t.n && !t.v)
      (run { at100 0x01 false with
        acc := 0x0042, rs0 := 0xFF42 } [0b0010]) = true := by decide

/-- V-M3. -/
theorem test_step_cmp_ignores_ci :
    nextHas (fun t => t.c && !t.z && !t.n && t.v)
      (run { at100 0x82 false with
        acc := 0x8000, rs0 := 0x0001 } [0b0010]) = true := by decide

/-- V-G1. -/
theorem test_step_cfg :
    nextHas (fun t => t.cfg == 0x41 && t.pc == 0x0102 && !t.nib)
      (run { at100 0x00 true with
        pc := 0x0100, nib := true } [0b0010, 0b0001, 0b0100]) = true := by decide

/-- V-ST1. -/
theorem test_step_racc_ul :
    nextHas (fun t => t.acc == 0x4123)
      (run { at100 0x00 false with
        acc := 0x1234 } [0b0110]) = true := by decide

/-- V-ST3. -/
theorem test_step_racc_lk8 :
    nextHas (fun t => t.acc == 0x3412)
      (run { at100 0x01 false with
        acc := 0x1234 } [0b0110]) = true := by decide

/-- V-ST4. -/
theorem test_step_rrs_lk8 :
    nextHas (fun t => t.rs0 == 0xEFBE)
      (run { at100 0x01 true with
        rs0 := 0xBEEF } [0b0110]) = true := by decide

/-- V-ST5. -/
theorem test_step_rrs_ul :
    nextHas (fun t => t.rs0 == 0xFBEE)
      (run { at100 0x00 true with
        rs0 := 0xBEEF } [0b0110]) = true := by decide

/-- V-K1. -/
theorem test_step_csrld :
    nextHas (fun t => t.acc == 0x0102)
      (run { at100 0x02 false with
        c := true } [0b0110, 0b0000]) = true := by decide

/-- V-K10 after its write. -/
theorem test_step_csrld_intctrl :
    nextHas (fun t => t.acc == 0x0A03)
      (run { at100 0x02 false with
        swIE := true, extIE := true, extP := true, swP := true } [0b0110, 0b0011]) = true := by decide

/-- V-K3. -/
theorem test_step_csrst :
    nextHas (fun t => t.ia == 0x80)
      (run { at100 0x02 true with
        acc := 0x1280 } [0b0110, 0b0100]) = true := by decide

/-- V-K9 after its write. -/
theorem test_step_csrst_intctrl :
    nextHas (fun t => t.intctrl == 0x0003)
      (run { at100 0x02 true with
        acc := 0xFFFF, extP := true, swP := true } [0b0110, 0b0011]) = true := by decide

/-- V-ST19. -/
theorem test_step_nop0110 :
    nextHas (fun t => t.acc == 0x4000 && t.pc == 0x0100 && t.nib)
      (run { at100 0x02 false with
        par := barePar, acc := 0x4000 } [0b0110, 0b0011]) = true := by decide

/-- rule R248. -/
theorem test_step_nop0110x :
    nextHas (fun t => t.acc == 0x4000 && t.pc == 0x0100 && t.nib)
      (run { at100 0x02 true with
        par := barePar, acc := 0x4000 } [0b0110, 0b0011]) = true := by decide

/-- V-ST6. -/
theorem test_step_rss :
    nextHas (fun t => t.rs0 == 0x0002 && t.rs1 == 0x0001)
      (run { at100 0x00 false with
        rs0 := 0x0001, rs1 := 0x0002 } [0b1010]) = true := by decide

/-- V-ST7. -/
theorem test_step_rsa :
    nextHas (fun t => t.ra0 == 0x0021 && t.ra1 == 0x0300)
      (run { at100 0x00 true with
        ra0 := 0x0300, ra1 := 0x0021 } [0b1010]) = true := by decide

/-- V-ST8. -/
theorem test_step_ss_ul :
    nextHas (fun t => t.acc == 0x12A8 && t.rs0 == 0x5674)
      (run { at100 0x00 false with
        acc := 0x12A4, rs0 := 0x5678 } [0b1110]) = true := by decide

/-- V-ST9. -/
theorem test_step_ss_lk8 :
    nextHas (fun t => t.acc == 0x1278 && t.rs0 == 0x56A4)
      (run { at100 0x01 false with
        acc := 0x12A4, rs0 := 0x5678 } [0b1110]) = true := by decide

/-- V-ST11. -/
theorem test_step_sa :
    nextHas (fun t => t.acc == 0xBEEF && t.ra0 == 0x0300)
      (run { at100 0x00 true with
        acc := 0x0300, ra0 := 0xBEEF } [0b1110]) = true := by decide

/-- V-ST15. -/
theorem test_step_ldi4 :
    nextHas (fun t => t.acc == 0xABC5 && t.c)
      (run { at100 0x08 false with
        acc := 0xABCD, c := true } [0b0100, 0b0101]) = true := by decide

/-- V-ST14. -/
theorem test_step_ldi8 :
    nextHas (fun t => t.acc == 0x00A5)
      (run { at100 0x02 false with
        acc := 0xABCD } [0b0100, 0b0101, 0b1010]) = true := by decide

/-- V-ST16. -/
theorem test_step_clc :
    nextHas (fun t => !t.c && t.pc == 0x0100 && t.nib)
      (run { at100 0x08 true with
        c := true } [0b0100]) = true := by decide

/-- rule R247. -/
theorem test_step_rsv0100 :
    nextHas (fun t => t.c && !t.xopp && t.nib)
      (run { at100 0x00 true with
        par := barePar, c := true } [0b0100]) = true := by decide

/-- V-X10. -/
theorem test_step_xmem_load :
    nextHas (fun t => t.acc == 0xABCD && t.ra0 == 0x0001)
      (run { at100 0x02 false with
        ra0 := 0xFFFF, mem := [(0x0000, 0xAB), (0xFFFF, 0xCD)] } [0b1100, 0b0100]) = true := by decide

/-- V-X2. -/
theorem test_step_xmem_store :
    nextHas (fun t => t.mem.read 0x0210 == 0x5A)
      (run { at100 0x00 false with
        acc := 0x000A, ra1 := 0x0210, mem := [(0x0210, 0x57)] } [0b1100, 0b1001]) = true := by decide

/-- V-ST17. -/
theorem test_step_xop :
    nextHas (fun t => t.xopp && t.c && t.pc == 0x0100 && t.nib)
      (run { at100 0x00 false with
        c := true } [0b1000]) = true := by decide

/-- V-ST18. -/
theorem test_step_nop :
    nextHas (fun t => t.c && t.n && t.v && t.pc == 0x0100 && t.nib)
      (run { at100 0x00 false with
        c := true, n := true, v := true } [0b0000]) = true := by decide

/-- V-F1. -/
theorem test_step_reti :
    nextHas (fun t => t.pc == 0x1234 && t.cfg == 0x10 && t.c && t.n && t.v && !t.z && t.ra1 == 0x0021 &&
        t.ia == 0x80 && t.iar == 0x00 && !t.inIsr)
      (run { at100 0x02 true with
        iar := 0x80, ia := 0x90, inIsr := true, acc := 0xAAAA, mem := [(0x8000, 0x34), (0x8001,
        0x12), (0x8002, 0x10), (0x8003, 0x0F), (0x800C, 0x21), (0x800E, 0x80)] } [0b1100]) = true := by decide

/-- V-W1 at its second step. -/
theorem test_step_swi :
    nextHas (fun t => t.intctrl == 0x0801 && t.acc == 0x0001)
      (run { at100 0x00 true with
        swIE := true, acc := 0x0001 } [0b1000]) = true := by decide

/-- V-W5 at its second step. -/
theorem test_step_wfi :
    nextHas (fun t => t.sleep && t.nib)
      (run { at100 0x00 true with
        extIE := true } [0b0000]) = true := by decide

/-- V-Q8. -/
theorem test_step_mad :
    nextHas (fun t => t.acc == 0x7F80 && t.c)
      (run { at100 0x03 true with
        par := madPar, acc := 0xFFFF, rs0 := 0x00FF, rs1 := 0x00FF } [0b1100, 0b1010]) = true := by decide

/-- V-Q4. -/
theorem test_step_mad_signed :
    nextHas (fun t => t.acc == 0xFFFF && !t.c)
      (run { at100 0x07 true with
        par := madPar, acc := 0x0000, rs0 := 0x00FF, rs1 := 0x0002 } [0b1100, 0b1100]) = true := by decide

/-- V-Q10. -/
theorem test_step_max :
    nextHas (fun t => t.acc == 0x0001 && t.c)
      (run { at100 0x07 true with
        par := madPar, acc := 0xFFFF, rs0 := 0x0001, c := true } [0b1000]) = true := by decide

/-- V-Q11. -/
theorem test_step_max_unsigned :
    nextHas (fun t => t.acc == 0xFFFF)
      (run { at100 0x03 true with
        par := madPar, acc := 0xFFFF, rs0 := 0x0001 } [0b1000]) = true := by decide

/-- V-Q12. -/
theorem test_step_min :
    nextHas (fun t => t.acc == 0x0FFF)
      (run { at100 0x03 true with
        par := madPar, acc := 0x1234, rs0 := 0x0FFF } [0b0000]) = true := by decide

/-- V-Q13. -/
theorem test_step_min_signed :
    nextHas (fun t => t.acc == 0x8000)
      (run { at100 0x07 true with
        par := madPar, acc := 0x8000, rs0 := 0x0001 } [0b0000]) = true := by decide

/-- rule R247. -/
theorem test_step_rsv1100 :
    nextHas (fun t => t.acc == 0x4000 && t.pc == 0x0100 && t.nib)
      (run { at100 0x00 true with
        par := barePar, acc := 0x4000 } [0b1100, 0b0011]) = true := by decide

/-- rule R247. -/
theorem test_step_rsv1000 :
    nextHas (fun t => t.acc == 0x4000 && !t.xopp && t.nib)
      (run { at100 0x00 true with
        par := barePar, acc := 0x4000 } [0b1000]) = true := by decide

/-- V-ST20 at its second step. -/
theorem test_step_rsv0000 :
    nextHas (fun t => t.acc == 0x0003 && !t.xopp && t.nib)
      (run { at100 0x00 true with
        par := barePar, acc := 0x0003 } [0b0000]) = true := by decide

/-! ### The step itself -/

/-- Trap entry: vector V-E1 (the handler's address, CFG, INTCTRL and the frame). -/
theorem test_step_interrupt :
    nextHas (fun t => t.pc == 0x8010 && !t.nib && t.cfg == 0x82 && t.iar == 0x80 && t.intctrl == 0x0302 &&
        t.mem.read 0x8000 == 0x40 && t.mem.read 0x8002 == 0x92 && t.mem.read 0x8003 == 0x05 &&
        t.mem.read 0x8004 == 0x34 && t.mem.read 0x8005 == 0x12 && t.mem.read 0x800C == 0x21 &&
        t.mem.read 0x800E == 0x80 && t.mem.read 0x800F == 0x07)
      (run { at100 0x92 false with
        pc := 0x0040, acc := 0x1234, rs0 := 0x5678, rs1 := 0x9ABC, ra0 := 0xDEF0, ra1 := 0x0021, ia := 0x80,
        iar := 0x07, extIE := true, extP := true, c := true, n := true } [0b1001]) = true := by decide

/-- An interrupt waits for a byte boundary: vector V-E2 at its first step. -/
theorem test_step_interrupt_waits :
    nextHas (fun t => t.acc == 0x000F && t.pc == 0x0041 && !t.inIsr)
      (run { at100 0x10 false with
        pc := 0x0040, nib := true, ia := 0x80, extIE := true, extP := true, acc := 0x000E } [0b1001]) =
      true := by decide

/-- A disabled source does not wake the core: vector V-W6. An enabled one does: vector V-W5. -/
theorem test_step_sleep :
    nextHas (fun t => t.sleep && t.acc == 0x0001)
      (run { at100 0x00 false with sleep := true, extP := true, acc := 0x0001 } [0b1001]) = true ∧
    nextHas (fun t => !t.sleep && t.acc == 0x0002 && t.intctrl == 0x0202)
      (run { at100 0x00 false with sleep := true, extIE := true, extP := true, acc := 0x0001 } [0b1001]) =
      true := by decide

/-- A timer match sets T_P: vector V-H1 at its third step. -/
theorem test_step_timer_match :
    nextHas (fun t => t.timer == 0x0001 && t.intctrl == 0x0400)
      (run { at100 0x00 false with par := timerPar, timer := 0x0000, timerCmp := 0x0001 } [0b0000]) =
      true := by decide

/-- A match with WDOG = 1 resets the core: vector V-H4 at its second step. -/
theorem test_step_watchdog :
    nextHas (fun t => t.pc == 0x0000 && t.cfg == 0x00 && t.acc == 0x0000 && t.timer == 0x0000 && !t.wdog)
      (run { at100 0x12 false with
        par := timerPar, acc := 0x7777, tIE := true, wdog := true, timer := 0x0001, timerCmp := 0x0002 }
        [0b0000]) = true := by decide

/-- With single step armed, in the line order of 60_exceptions.md R348 SW_P is set after the reset. -/
theorem test_step_watchdog_single_step :
    nextHas (fun t => t.intctrl == 0x0800 && t.timer == 0x0000)
      (run { at100 0x10 false with
        par := { timerPar with hasDbg := true }, dbgStep := true, wdog := true, timer := 0x0001,
        timerCmp := 0x0002 } [0b0000]) = true := by decide

/-- Under the parameter that drops the request, INTCTRL is cleared (70_reset_and_hazards.md R392). -/
theorem test_step_watchdog_drops_request :
    nextHas (fun t => t.intctrl == 0x0000 && t.timer == 0x0000)
      (run { at100 0x10 false with
        par := { timerPar with hasDbg := true, stepAtReset := .dropped }, dbgStep := true, wdog := true,
        timer := 0x0001, timerCmp := 0x0002 } [0b0000]) = true := by decide

/-- An armed instruction requests the software interrupt: vector V-SS1 at LDi 7. -/
theorem test_step_single_step :
    nextHas (fun t => t.acc == 0x0007 && t.swP)
      (run { at100 0x10 false with
        par := { Config.default with hasDbg := true }, dbgStep := true, swIE := true, acc := 0x0001 }
        [0b0100, 0b0111]) = true := by decide

/-- The external line, and the environment's reset, before a step (10_state.md R56, 70_reset_and_hazards.md
R390). -/
theorem test_step_environment :
    nextHas (fun t => t.extP && t.acc == 0x0001 && t.env == [])
      (run { at100 0x00 false with env := [.extLine] } [0b1001]) = true ∧
    nextHas (fun t => t.acc == 0x0000 && t.pc == 0x0000 && t.env == [.quiet])
      (run { at100 0x00 false with acc := 0x1234, env := [.reset, .quiet] } [0b1001]) = true := by decide

/-- Reserved link mode: the step stops by name (10_state.md R33). -/
theorem test_step_reserved_mode : run (at100 0x03 false) [0b0000] = .refused .reservedLinkMode := rfl

/-- The memory at reset is in canonical form, and writing what an unlisted address reads as removes the entry. -/
theorem test_memory_form :
    Memory.wf State.reset.mem = true ∧ Memory.write [(5, 1)] 5 0 = [] ∧
    Memory.write [(5, 1)] 3 2 = [(3, 2), (5, 1)] ∧ Memory.wf [(5, 1), (5, 2)] = false ∧
    Memory.wf [(5, 0)] = false := by decide

/-! ### Witnesses: a state and operands that meet a statement's hypotheses -/

/-- The reset state in each link mode. -/
theorem link_modes :
    (at100 0x00 false).linkMode = some .ul ∧ (at100 0x01 false).linkMode = some .lk8 ∧
    (at100 0x02 false).linkMode = some .lk16 ∧
    ({ at100 0x03 false with par := madPar } : State).linkMode = some .spe := by decide

theorem witness_DecodeOfEncode :
    Instr.wellFormed (ctx Config.default true 0x09 .lk8) (.xori8 0xA5) = true ∧
    Instr.wellFormed (ctx madPar true 0x03 .spe) (.mad .by4 true .high) = true := by decide

theorem witness_EncodeOfDecode :
    decode (ctx Config.default false 0x00 .ul) [0b1100, 0b1111, 0b0000] =
      .ok (.xmem .store true .down .ra1, [0b0000]) := rfl

/-- A NOP state with everything a step statement asks. -/
def nopState : State := at100 0x00 false

/-- An armed single-stepping state of a core with a debug profile. -/
def armedState : State :=
  { at100 0x10 false with par := { Config.default with hasDbg := true }, dbgStep := true }

theorem witness_StepRunsDecodedInstruction :
    nopState.env = [] ∧ nopState.linkMode = some .ul ∧ nopState.staysAsleep = false ∧
    nopState.awaken.takesInterrupt = false ∧
    decode (nopState.awaken.decodeCtx .ul) (State.peek 3 nopState.awaken) =
      .ok (.nop, [0b0000, 0b0000]) := ⟨rfl, rfl, rfl, rfl, rfl⟩

/-- One state for each reason to wait, all with a pending enabled source but the last. -/
def waiting : List State :=
  let s : State := { at100 0x10 false with extIE := true, extP := true }
  [{ s with nib := true }, { s with cfg := 0x00 }, { s with par := { Config.default with hasInt := false } },
   { s with par := { Config.default with xopAtomic := true }, xopp := true },
   { s with par := { Config.default with cmpAtomic := true }, cmpp := true }, { s with extP := false }]

theorem witness_InterruptWaitsForBoundary :
    ∀ s ∈ waiting, (s.env = [] ∧ s.linkMode = some .ul ∧ s.sleep = false) ∧
      (s.nib = true ∨ s.cfg.getLsbD 4 = false ∨ s.par.hasInt = false ∨
        (s.par.xopAtomic = true ∧ s.xopp = true) ∨ (s.par.cmpAtomic = true ∧ s.cmpp = true) ∨
        ((s.swIE && s.swP) = false ∧ (s.extIE && s.extP) = false ∧ (s.tIE && !s.wdog && s.tP) = false)) ∧
      nextHas (fun _ => true)
        (exec (s.currentInstr .ul) (State.advanceBy (s.currentInstr .ul).nibbles s)) = true := by decide

/-- A core about to take an interrupt. -/
def trapping : State := { at100 0x10 false with ia := 0xFF, extIE := true, extP := true }

theorem witness_InterruptEntrySavesFrame :
    trapping.env = [] ∧ trapping.linkMode ≠ none ∧ trapping.par.hasInt = true ∧ trapping.mem.wf = true ∧
    (trapping.par.hasTimer = false ∨ trapping.par.timerMode = .retired) ∧ trapping.cfg.getLsbD 4 = true ∧
    ((trapping.swIE && trapping.swP) = true ∨ (trapping.extIE && trapping.extP) = true ∨
      (trapping.tIE && !trapping.wdog && trapping.tP) = true) ∧
    trapping.nib = false ∧ (trapping.par.xopAtomic && trapping.xopp) = false ∧
    (trapping.par.cmpAtomic && trapping.cmpp) = false := by decide

/-- The other sources. -/
def trappingSw : State := { at100 0x10 false with ia := 0x02, swIE := true, swP := true }

theorem witness_ReturnRestoresInterruptedContext :
    step trapping = .next (trapEntry trapping) ∧ (trapEntry trapping).linkMode ≠ none ∧
    (trapping.extIE && trapping.extP) = true ∧
    step trappingSw = .next (trapEntry trappingSw) ∧ (trapEntry trappingSw).linkMode ≠ none ∧
    (trappingSw.swIE && trappingSw.swP) = true ∧
    step { at100 0x10 false with tIE := true, tP := true } =
      .next (trapEntry { at100 0x10 false with tIE := true, tP := true }) :=
  ⟨rfl, by decide, rfl, rfl, by decide, rfl, rfl⟩


theorem witness_SwiAndWfiSetTheirBit :
    nopState.linkMode ≠ none := by decide

theorem witness_RetiLoadsFrame :
    nopState.linkMode ≠ none := by decide

theorem witness_JalLinksAndJumps :
    nopState.linkMode ≠ none := by decide

theorem witness_JmpGoesToRa0 :
    nopState.linkMode ≠ none := by decide

theorem witness_NopChangesNothing :
    nopState.linkMode ≠ none := by decide

theorem witness_XopClcAndNoOps :
    nopState.linkMode ≠ none := by decide

theorem witness_CpuidIsConstant :
    nopState.linkMode ≠ none := by decide

theorem witness_MaxMinResult :
    nopState.linkMode ≠ none := by decide

/-- A core with the MAD profile under a loaded CFG, with or without an XOP pending. -/
def underCfg (imm : Byte) (x : Bool) : State := { at100 imm x with par := madPar }

/-- CFG from LK16 to each value of W with the other bits set; every loaded state has the CFG and the
parameters the statement asks for. -/
theorem witness_CfgLoadsImmediate :
    (underCfg 0x02 false).linkMode ≠ none ∧
    exec (.cfg 0xFD) (underCfg 0x02 false) = .next (underCfg 0xFD false) ∧
    (∀ imm x, (underCfg imm x).par = madPar ∧ (underCfg imm x).cfg = imm ∧ (underCfg imm x).xopp = x) ∧
    (underCfg 0xFC true).linkMode = some .ul ∧ (underCfg 0xFD true).linkMode = some .lk8 ∧
    (underCfg 0xFE true).linkMode = some .lk16 ∧ (underCfg 0xFF true).linkMode = some .spe :=
  ⟨by decide, rfl, fun _ _ => ⟨rfl, rfl, rfl⟩, rfl, rfl, rfl, rfl⟩


theorem witness_FullExchanges :
    nopState.linkMode ≠ none ∧ exec .sa nopState = .next nopState ∧
    exec (.xmem .load true .up .ra0) nopState = .next { nopState with ra0 := 1 } := ⟨by decide, rfl, rfl⟩

/-- The first and the last index of the reserved CSRs, and the index below them. -/
theorem witness_CsrReadFunction :
    nopState.linkMode ≠ none ∧ 9 ≤ (9 : Nibble).toNat ∧ 9 ≤ (15 : Nibble).toNat ∧ ¬9 ≤ (8 : Nibble).toNat := by decide

/-- With and without the Interrupt Profile; the boundaries of the ignored indices. -/
theorem witness_CsrWriteFunction :
    nopState.linkMode ≠ none ∧ nopState.par.hasInt = true ∧
    ({ nopState with par := barePar } : State).linkMode ≠ none ∧
    ({ nopState with par := barePar } : State).par.hasInt = false ∧
    8 ≤ (8 : Nibble).toNat ∧ 8 ≤ (15 : Nibble).toNat ∧ ¬8 ≤ (7 : Nibble).toNat := by decide

/-- A core asleep. -/
def asleep : State := { at100 0x00 false with sleep := true }

theorem witness_SleepHoldsEverything :
    asleep.env = [] ∧ asleep.linkMode ≠ none ∧ asleep.par.hasInt = true ∧ asleep.sleep = true ∧
    (asleep.par.hasTimer = false ∨ asleep.par.timerMode = .retired) ∧
    (asleep.swIE && asleep.swP) = false ∧ (asleep.extIE && asleep.extP) = false ∧
    (asleep.tIE && !asleep.wdog && asleep.tP) = false := by decide

/-- One sleeping state for each source that wakes it. -/
def waking : List State :=
  [{ asleep with swIE := true, swP := true }, { asleep with extIE := true, extP := true },
   { asleep with tIE := true, tP := true }]

theorem witness_EnabledSourceWakes :
    ∀ s ∈ waking, s.env = [] ∧ s.par.hasInt = true ∧ s.sleep = true ∧
      ((s.swIE && s.swP) = true ∨ (s.extIE && s.extP) = true ∨ (s.tIE && !s.wdog && s.tP) = true) := by
  decide

/-- A schedule of two events: the first reaches the core, the second stays. -/
theorem witness_ExternalLineSetsPending :
    step { nopState with env := [.extLine, .reset] } =
      .next { nopState with nib := true, extP := true, env := [.reset] } ∧
    step { nopState with env := [.quiet, .extLine] } = .next { nopState with nib := true, env := [.extLine] } ∧
    step { nopState with env := [] } = .next { nopState with nib := true } := ⟨rfl, rfl, rfl⟩

theorem witness_EnvironmentResetKeepsMemory :
    ({ nopState with env := [.reset, .quiet] } : State).env = .reset :: [.quiet] := rfl

theorem witness_AddResult :
    (at100 0x00 false).linkMode = some .ul ∧ (at100 0x01 false).linkMode = some .lk8 ∧
    (at100 0x02 false).linkMode = some .lk16 ∧
    ({ at100 0x03 false with par := madPar } : State).linkMode = some .spe := link_modes

theorem witness_SubResult :
    (at100 0x00 false).linkMode = some .ul ∧ (at100 0x01 false).linkMode = some .lk8 ∧
    (at100 0x02 false).linkMode = some .lk16 ∧
    ({ at100 0x03 false with par := madPar } : State).linkMode = some .spe := link_modes

theorem witness_IncDecResult :
    (at100 0x00 false).linkMode = some .ul ∧ (at100 0x01 false).linkMode = some .lk8 ∧
    (at100 0x02 false).linkMode = some .lk16 ∧
    ({ at100 0x03 false with par := madPar } : State).linkMode = some .spe := link_modes

theorem witness_LogicResult :
    (at100 0x00 false).linkMode = some .ul ∧ (at100 0x01 false).linkMode = some .lk8 ∧
    (at100 0x02 false).linkMode = some .lk16 ∧
    ({ at100 0x03 false with par := madPar } : State).linkMode = some .spe := link_modes

theorem witness_ShiftResult :
    (at100 0x00 false).linkMode = some .ul ∧ (at100 0x01 false).linkMode = some .lk8 ∧
    (at100 0x02 false).linkMode = some .lk16 ∧
    ({ at100 0x03 false with par := madPar } : State).linkMode = some .spe := link_modes

theorem witness_BitTestResult :
    (at100 0x00 false).linkMode = some .ul ∧ (at100 0x01 false).linkMode = some .lk8 ∧
    (at100 0x02 false).linkMode = some .lk16 ∧
    ({ at100 0x03 false with par := madPar } : State).linkMode = some .spe := link_modes

theorem witness_CmpResult :
    (at100 0x00 false).linkMode = some .ul ∧ (at100 0x01 false).linkMode = some .lk8 ∧
    (at100 0x02 false).linkMode = some .lk16 ∧
    ({ at100 0x03 false with par := madPar } : State).linkMode = some .spe := link_modes

theorem witness_SsExchangesActiveWidth :
    (at100 0x00 false).linkMode = some .ul ∧ (at100 0x01 false).linkMode = some .lk8 ∧
    (at100 0x02 false).linkMode = some .lk16 ∧
    ({ at100 0x03 false with par := madPar } : State).linkMode = some .spe := link_modes

theorem witness_LdiResult :
    (at100 0x00 false).linkMode = some .ul ∧ (at100 0x01 false).linkMode = some .lk8 ∧
    (at100 0x02 false).linkMode = some .lk16 ∧
    ({ at100 0x03 false with par := madPar } : State).linkMode = some .spe := link_modes

theorem witness_InvComplementsActiveWidth :
    (at100 0x00 false).linkMode = some .ul ∧
    exec .inv (at100 0x00 false) =
      .next { at100 0x00 false with acc := 0x000F, xopp := false, cmpp := false, z := false } ∧
    exec .inc { at100 0x00 false with acc := 0x000F, xopp := false, cmpp := false, z := false } =
      .next { at100 0x00 false with acc := 0x0000, c := true, n := false, v := false } ∧
    (ctx Config.default true 0x08 .ul).ext = true := ⟨rfl, rfl, rfl, rfl⟩

/-- Both outcomes, with and without a compare before. -/
theorem witness_BeqzResult :
    (at100 0x00 false).linkMode = some .ul ∧
    (if (at100 0x00 false).cmpp then (at100 0x00 false).z = true
      else (at100 0x00 false).acc.toNat % 2 ^ width .ul = 0) ∧
    ¬(if ({ at100 0x00 false with cmpp := true } : State).cmpp
      then ({ at100 0x00 false with cmpp := true } : State).z = true
      else ({ at100 0x00 false with cmpp := true } : State).acc.toNat % 2 ^ width .ul = 0) := by decide

theorem witness_BcResult :
    (at100 0x00 false).linkMode ≠ none ∧ ({ at100 0x00 false with c := true } : State).c = true ∧
    (at100 0x00 false).c = false := by decide

/-- A call at 0x0100 and a function that keeps RA1. -/
theorem witness_CallReturnsToNext :
    nopState.linkMode ≠ none ∧
    exec .jal nopState =
      .next { nopState with ra1 := 0x0100, pc := 0x0000 } ∧
    exec .rsa { nopState with ra1 := 0x0100, ra0 := 0x0300 } =
      .next { nopState with ra0 := 0x0100, ra1 := 0x0300 } := ⟨by decide, rfl, rfl⟩

/-- A rotation of the form the statement asks for, in UL with the default direction. -/
theorem witness_RotationResult :
    (at100 0x00 false).linkMode = some .ul ∧
    ∃ rot : Half → Half, ∀ x : Half, rot x =
      (match LinkMode.ul, (at100 0x00 false).par.raccDir with
      | .ul, .right => (x.extractLsb' 0 4 ++ x.extractLsb' 4 12 : BitVec 16)
      | .ul, .left => (x.extractLsb' 0 12 ++ x.extractLsb' 12 4 : BitVec 16)
      | .lk8, _ => (x.extractLsb' 0 8 ++ x.extractLsb' 8 8 : BitVec 16)
      | _, _ => x) := ⟨rfl, _, fun _ => rfl⟩

/-- One state for each clause. -/
theorem witness_ReservedOpcodes :
    nopState.par.rsvBehaviour = .noOp ∧ nopState.linkMode ≠ none ∧
    ({ nopState with par := { barePar with rsvBehaviour := .refuse } } : State).par.rsvBehaviour = .refuse ∧
    ({ nopState with par := { barePar with rsvBehaviour := .refuse } } : State).par.hasMad = false ∧
    ({ nopState with par := { madPar with rsvBehaviour := .refuse } } : State).par.rsvBehaviour = .refuse ∧
    ({ nopState with par := { madPar with rsvBehaviour := .refuse } } : State).par.hasMad = true := by
  decide

/-- At the top of memory, with a post-increment. -/
theorem witness_XmemLoadResult :
    (at100 0x00 false).linkMode = some .ul ∧ (at100 0x01 false).linkMode = some .lk8 ∧
    ({ at100 0x03 false with par := madPar } : State).linkMode = some .spe ∧
    (at100 0x02 false).linkMode = some .lk16 ∧
    (0xFFFF : Half) = (if AddrReg.ra0 = .ra1 then ({ at100 0x02 false with ra0 := 0xFFFF } : State).ra1
      else ({ at100 0x02 false with ra0 := 0xFFFF } : State).ra0) ∧
    (2 : Half) = (if true = false then 0
      else if StrideDir.up = .up then (if width .lk16 = 16 then 2 else 1)
      else (if width .lk16 = 16 then -2 else -1)) := by decide

theorem witness_XmemStoreResult :
    (at100 0x00 false).linkMode = some .ul ∧ (at100 0x02 false).linkMode = some .lk16 ∧
    ({ at100 0x03 false with par := madPar } : State).linkMode = some .spe ∧
    (at100 0x01 false).linkMode = some .lk8 ∧ (at100 0x01 false).mem.wf = true ∧
    (0xFFFF : Half) = (if AddrReg.ra1 = .ra1 then ({ at100 0x01 false with ra1 := 0xFFFF } : State).ra1
      else ({ at100 0x01 false with ra1 := 0xFFFF } : State).ra0) ∧
    (-1 : Half) = (if true = false then 0
      else if StrideDir.down = .up then (if width .lk8 = 16 then 2 else 1)
      else (if width .lk8 = 16 then -2 else -1)) := by decide

/-- A store through RA0 and a load through RA1 of the same address. -/
theorem witness_StoreThenLoad :
    (at100 0x01 false).linkMode = some .lk8 ∧ (at100 0x01 false).mem.wf = true ∧
    exec (.xmem .store false .up .ra0) { at100 0x01 false with acc := 0x1234, ra0 := 0x0200 } =
      .next { at100 0x01 false with acc := 0x1234, ra0 := 0x0200, mem := [(0x0200, 0x34)] } ∧
    ({ at100 0x01 false with ra1 := 0x0200, mem := [(0x0200, 0x34)] } : State).addrReg .ra1 = 0x0200 ∧
    exec (.xmem .load false .up .ra1) { at100 0x01 false with ra1 := 0x0200, mem := [(0x0200, 0x34)] } =
      .next { at100 0x01 false with acc := 0x0034, ra1 := 0x0200, mem := [(0x0200, 0x34)] } :=
  ⟨rfl, rfl, rfl, rfl, rfl⟩

theorem witness_DirIgnoredWithoutPostModify : (ctx Config.default false 0x00 .ul).ext = false := rfl

/-- The operands of vector V-Q8: 65535 + 255 * 255 = 130560, shifted right by 2. -/
theorem witness_MadResult :
    ({ at100 0x03 false with par := madPar } : State).linkMode ≠ none ∧
    (0xFF : Byte) = (if Lane.low = .high then (0x00FF : Half).extractLsb' 8 8
      else (0x00FF : Half).extractLsb' 0 8) ∧
    (130560 : Int) = (0xFFFF : Half).toNat + (0xFF : Byte).toNat * (0xFF : Byte).toNat ∧
    (32640 : Int) * 2 ^ 2 ≤ 130560 ∧ (130560 : Int) < (32640 + 1) * 2 ^ 2 := by decide

/-- A timer core about to retire a NOP: no match with the watchdog on, a match with the watchdog off, and no
compare register. -/
def counting : List State :=
  [{ nopState with par := timerPar, timerCmp := 2, wdog := true }, { nopState with par := timerPar, timerCmp := 1 },
   { nopState with par := { timerPar with hasTimerCmp := false } }]

theorem witness_TimerCountsRetiredInstructions :
    ∀ s ∈ counting, (s.env = [] ∧ s.linkMode = some .ul ∧ s.sleep = false ∧ s.takesInterrupt = false) ∧
      nextHas (fun u => u.par.hasTimer && decide (u.par.timerMode = .retired) &&
          decide (u.wdog = false ∨ u.par.hasTimerCmp = false ∨ u.timer + 1 ≠ u.timerCmp))
        (exec (s.currentInstr .ul) (State.advanceBy (s.currentInstr .ul).nibbles s)) = true := by decide

theorem witness_WatchdogMatchResets :
    ∃ s u : State, s.env = [] ∧ s.linkMode = some .ul ∧ s.sleep = false ∧ s.takesInterrupt = false ∧
      exec (s.currentInstr .ul) (State.advanceBy (s.currentInstr .ul).nibbles s) = .next u ∧
      u.par.hasTimer = true ∧ u.par.timerMode = .retired ∧ u.par.hasTimerCmp = true ∧
      u.wdog = true ∧ u.timer + 1 = u.timerCmp :=
  ⟨{ nopState with par := timerPar, timer := 0xFFFF, timerCmp := 0, wdog := true }, _, rfl, rfl, rfl, rfl,
    rfl, rfl, rfl, rfl, rfl, rfl⟩

/-- A core whose timer counts cycles, with a match at the first increment. -/
def cyclePar : Config := { timerPar with timerMode := .cycle }

/-- In each of the three situations, with a match (the first increment is made whatever the free number is),
with and without the watchdog; without a compare register there is none. -/
def cycling : List State :=
  [{ nopState with par := cyclePar, timerCmp := 1, wdog := true }, { asleep with par := cyclePar, timerCmp := 1 },
   { trapping with par := cyclePar, timerCmp := 1 },
   { nopState with par := { cyclePar with hasTimerCmp := false } }]

theorem witness_CycleTimerAdvances :
    (∀ s ∈ cycling, s.env = [] ∧ s.linkMode = some .ul ∧ s.par.hasTimer = true ∧ s.par.timerMode = .cycle) ∧
    (cycling.map fun s => (s.staysAsleep, s.awaken.takesInterrupt)) =
      [(false, false), (true, false), (false, true), (false, false)] ∧
    (∀ s ∈ cycling, nextHas (fun _ => true)
        (exec (s.awaken.currentInstr .ul)
          (State.advanceBy (s.awaken.currentInstr .ul).nibbles s.awaken)) = true) ∧
    (cycling.map fun s => s.par.hasTimerCmp && decide (s.timer + BitVec.ofNat 16 1 = s.timerCmp)) =
      [true, true, true, false] ∧
    ∀ n, 1 ≤ Config.cycleTicks n + 1 :=
  ⟨by decide, by decide, by decide, by decide, fun _ => Nat.le_add_left _ _⟩

/-- An armed state, and one that is not. -/
theorem witness_SingleStepRequestsTrap :
    ∀ s ∈ [nopState, armedState], (s.env = [] ∧ s.linkMode = some .ul ∧ s.sleep = false ∧
      s.takesInterrupt = false ∧ s.par.hasTimer = false) ∧
      nextHas (fun u => !u.par.hasTimer)
        (exec (s.currentInstr .ul) (State.advanceBy (s.currentInstr .ul).nibbles s)) = true := by decide

/-- A core with another RESET_IMAGE and MEM_INIT: the registers of an absent profile are 0 all the same. -/
def imagePar : Config :=
  { Config.default with
    resetImage := { ResetImage.zero with acc := 0x1234, timer := 0x5678, tIE := true, extIE := true }
    memInit := [(0x0000, 0x28)] }

theorem witness_ResetImageIsZero :
    State.reset = State.reset ∧
    State.powerOn imagePar =
      { State.reset with par := imagePar, acc := 0x1234, extIE := true, mem := [(0x0000, 0x28)] } := ⟨rfl, rfl⟩

theorem witness_InvariantAtReset :
    imagePar.valid = true ∧ Memory.wf imagePar.memInit = true := by decide

/-- The default parameters with the alternative of NV_RULE. -/
def nvPar : Config := { Config.default with nvRule := .anyAfterAlu }

theorem witness_NvRuleOpensFlags :
    nopState.par.nvRule = .arithmetic ∧ ({ nopState with par := nvPar } : State).par.nvRule = .anyAfterAlu ∧
    nvPar = { nopState.par with nvRule := .anyAfterAlu } ∧
    exec .clc nopState = .next nopState ∧ isAlu .clc = false ∧
    exec .inv nopState = .next { nopState with acc := 0x000F } ∧ isAlu .inv = true :=
  ⟨rfl, rfl, rfl, rfl, rfl, rfl, rfl⟩

/-- Under that alternative INV still complements the active width, and N and V are the next draws
(93_implementation_defined.md U7). -/
theorem test_nv_rule_any :
    exec .inv { nopState with par := nvPar, draws := 3 } =
      .next { nopState with par := nvPar, acc := 0x000F, n := Config.freeN 3, v := Config.freeV 3, draws := 4 } :=
  rfl

theorem witness_OnlyListedInstructionsWrite :
    exec (.xmem .store true .up .ra0) { nopState with acc := 0x0005, ra0 := 0xFFFF } =
      .next { nopState with acc := 0x0005, ra0 := 0x0000, mem := [(0xFFFF, 0x05)] } := rfl

theorem witness_OnlyListedInstructionsWriteFlags :
    exec .clc { nopState with c := true } = .next nopState := rfl

theorem witness_CompletionClearsSequencingState :
    exec .xop nopState = .next { nopState with xopp := true } ∧
    exec .cmp nopState = .next { nopState with cmpp := true, z := true, c := true } := ⟨rfl, rfl⟩

theorem witness_StepAlwaysContinues :
    nopState.linkMode ≠ none ∧ nopState.par.rsvBehaviour = .noOp := by decide

theorem witness_ReservedLinkModeStops :
    (at100 0x03 false).par.hasMad = false ∧ (at100 0x03 false).cfg.getLsbD 0 = true ∧
    (at100 0x03 false).cfg.getLsbD 1 = true ∧ (at100 0x03 false).env = [] := by decide

theorem witness_StepKeepsConfiguration : step nopState = .next { nopState with nib := true } := rfl

/-- A state with the invariant, not the reset state, and its
next state. -/
theorem witness_StepKeepsInvariant :
    ({ nopState with cmpp := true, z := true, mem := [(0x0200, 0x01)] } : State).Inv ∧
    step { nopState with cmpp := true, z := true, mem := [(0x0200, 0x01)] } =
      .next { nopState with nib := true, mem := [(0x0200, 0x01)] } := ⟨by decide, rfl⟩

end Sys2Proof.Tests
end

