-- ==== Sys2Proof/Proofs/StateConstants.lean ====
section
/-! The statements of 10_state.md about constants: what CPUID reads as, and what CFG holds after reset. -/

namespace Sys2Proof.Machine

/-! ### A meaning that is the same in every link mode -/

/-- Where a link mode is in force, a meaning that does not depend on it is run as it is. -/
theorem inMode_const {s : State} (h : s.linkMode ≠ none) (t : State) :
    inMode s (fun _ => t) = .next t := by
  obtain ⟨m, hm⟩ := Option.ne_none_iff_exists'.mp h
  exact inMode_of_mode hm _

/-! ### CSR access and CPUID (10_state.md R52, 46_csr_access.md R280, R281) -/

theorem exec_csrld {s : State} (h : s.linkMode ≠ none) (idx : Nibble) :
    exec (.csrld idx) s = .next (complete { s with acc := csrRead s idx }) :=
  inMode_const h _

theorem exec_csrst {s : State} (h : s.linkMode ≠ none) (idx : Nibble) :
    exec (.csrst idx) s = .next (complete (csrWrite s idx s.acc)) :=
  inMode_const h _

@[simp] theorem csrRead_cpuid (s : State) : csrRead s 8 = s.par.cpuid := rfl

@[simp] theorem csrWrite_cpuid (s : State) (v : Half) : csrWrite s 8 v = s := rfl

/-- Settles O43: both accesses are the CSR functions at index 8 followed by the common completion. -/
theorem cpuidIsConstant : Obligations.CpuidIsConstant := by
  intro s h
  constructor
  · rw [exec_csrld h, csrRead_cpuid]; rfl
  · rw [exec_csrst h, csrWrite_cpuid]; rfl

/-! ### The fields of CFG = 0x00 (10_state.md R27, R59) -/

/-- W = 0b00 selects UL whatever profiles the core has. -/
@[simp] theorem linkModeOf_zero (p : Config) : linkModeOf p 0 = some .ul := rfl

theorem linkMode_of_cfg_zero {s : State} (h : s.cfg = 0) : s.linkMode = some .ul := by
  have hW : s.cfg.extractLsb' 0 2 = 0 := by rw [h]; rfl
  rw [State.linkMode, hW, linkModeOf_zero]

theorem getLsbD_of_cfg_zero {s : State} (h : s.cfg = 0) (j : Nat) : s.cfg.getLsbD j = false := by
  rw [h]; exact BitVec.getLsbD_zero

/-- Settles O50: CFG is written as 0x00, every one-bit field is a bit of it, and W is its two low bits. -/
theorem resetCfg : Obligations.ResetCfg := by
  have hcfg : State.reset.cfg = 0 := powerOn_cfg Config.default
  have hbit := getLsbD_of_cfg_zero hcfg
  exact ⟨hcfg, hbit 7, hbit 6, hbit 5, hbit 4, hbit 3, hbit 2, linkMode_of_cfg_zero hcfg⟩

end Sys2Proof.Machine
end

