-- ==== Sys2Proof/Proofs/ControlFlow.lean ====
section
/-! The statement of 43_control_flow.md about JMP: its encoding, and the jump to RA0 without a link. -/

namespace Sys2Proof.Machine

/-- JMP completes the jump to RA0; the link mode decides only whether it runs (43_control_flow.md R214). -/
theorem exec_jmp {s : State} (h : s.linkMode ≠ none) :
    exec .jmp s = .next (complete (s.jumpTo s.ra0)) :=
  inMode_const h _

/-- A completed jump, with all it leaves unchanged: the target with phase 0 and the sequencing state cleared. -/
theorem complete_jumpTo (s : State) (target : Half) :
    complete (s.jumpTo target) =
      { s with pc := target, nib := false, xopp := false, cmpp := false, z := false } := rfl

/-- Settles O26: the encoding and the column are JMP's rows of the encoder and of `Instr.wellFormed`; the jump
is `State.jumpTo` followed by the common completion, and neither of them writes RA1. -/
theorem jmpGoesToRa0 : Obligations.JmpGoesToRa0 := by
  refine ⟨rfl, fun _ => rfl, fun s hmode => ?_⟩
  rw [exec_jmp hmode, complete_jumpTo]

end Sys2Proof.Machine
end

