-- ==== Sys2Proof/Proofs/Structural.lean ====
section
/-! Statements of 44_structural.md: NOP, the 16-bit exchanges RSS, RSA and SA, and the writers of RA0. -/

namespace Sys2Proof.Machine

/-! ### NOP (44_structural.md R246) -/

/-- A one-nibble stream holds an instruction that has no immediate nibble. -/
theorem decode_singleton {c : DecodeCtx} {op : Nibble} (h : (decodeNibbles c op 0 0).immNibbles = 0) :
    decode c [op] = .ok (decodeNibbles c op 0 0, []) := by
  simpa [decode] using h

theorem decodeNibbles_default {c : DecodeCtx} (h : c.ext = false) (op n0 n1 : Nibble) :
    decodeNibbles c op n0 n1 = decodeDefault c op n0 n1 := by
  simp [decodeNibbles, h]

theorem decodeDefault_nop (c : DecodeCtx) (n0 n1 : Nibble) : decodeDefault c 0b0000 n0 n1 = .nop := rfl

theorem exec_nop {s : State} (h : s.linkMode ≠ none) : exec .nop s = .next (complete s) :=
  inMode_const h _

/-- Settles O34: nibble 0000 of the Default column is NOP without an immediate nibble, and its meaning is
the common completion alone. -/
theorem nopChangesNothing : Obligations.NopChangesNothing := by
  refine ⟨fun c hcol => ?_, fun s hmode => exec_nop hmode⟩
  have hnop : decodeNibbles c 0b0000 0 0 = .nop := by
    rw [decodeNibbles_default hcol, decodeDefault_nop]
  rw [decode_singleton (by rw [hnop]; rfl), hnop]

/-! ### The exchanges of 16 bits (44_structural.md R237, R238, R241) -/

theorem exec_rss {s : State} (h : s.linkMode ≠ none) :
    exec .rss s = .next (complete { s with rs0 := s.rs1, rs1 := s.rs0 }) :=
  inMode_const h _

theorem exec_rsa {s : State} (h : s.linkMode ≠ none) :
    exec .rsa s = .next (complete { s with ra0 := s.ra1, ra1 := s.ra0 }) :=
  inMode_const h _

theorem exec_sa {s : State} (h : s.linkMode ≠ none) :
    exec .sa s = .next (complete { s with acc := s.ra0, ra0 := s.acc }) :=
  inMode_const h _

/-! ### RA0 under the operations of the meanings

RA0 is no destination of any operation but XMEM's post-modification; every other one is built from updates
whose RA0 law stands in Laws/State.lean. -/

section ra0
variable (m : LinkMode) (s : State)

@[simp] theorem opAdd_ra0 (b : Nat) : (opAdd m b s).ra0 = s.ra0 := by simp [opAdd]
@[simp] theorem opSub_ra0 (b : Nat) : (opSub m b s).ra0 = s.ra0 := by simp [opSub]
@[simp] theorem opInc_ra0 : (opInc m s).ra0 = s.ra0 := by simp [opInc]
@[simp] theorem opDec_ra0 : (opDec m s).ra0 = s.ra0 := by simp [opDec]
@[simp] theorem opAnd_ra0 (b : Nat) : (opAnd m b s).ra0 = s.ra0 := setLogic_ra0 s m _
@[simp] theorem opOr_ra0 (b : Nat) : (opOr m b s).ra0 = s.ra0 := setLogic_ra0 s m _
@[simp] theorem opXor_ra0 (b : Nat) : (opXor m b s).ra0 = s.ra0 := setLogic_ra0 s m _
@[simp] theorem opInv_ra0 : (opInv m s).ra0 = s.ra0 := setLogic_ra0 s m _
@[simp] theorem opShl_ra0 : (opShl m s).ra0 = s.ra0 := by simp [opShl]
@[simp] theorem opShr_ra0 : (opShr m s).ra0 = s.ra0 := by simp [opShr]
@[simp] theorem opBtst_ra0 (idx : Nibble) : (opBtst idx s).ra0 = s.ra0 := setCarry_ra0 s _
@[simp] theorem opTst_ra0 (mask : Nat) : (opTst m mask s).ra0 = s.ra0 := setCarry_ra0 s _

@[simp] theorem opBranch_ra0 {k : Nat} (cond : Bool) (imm : BitVec k) : (opBranch cond imm s).ra0 = s.ra0 := by
  obtain ⟨-, h⟩ | ⟨-, h⟩ := opBranch_cases cond imm s <;> rw [h]

@[simp] theorem opCmp_ra0 : (opCmp m s).ra0 = s.ra0 := by simp [opCmp]
@[simp] theorem opXop_ra0 : (opXop s).ra0 = s.ra0 := rfl
@[simp] theorem opSwapSource_ra0 : (opSwapSource m s).ra0 = s.ra0 := rfl

@[simp] theorem csrWrite_ra0 (idx : Nibble) (v : Half) : (csrWrite s idx v).ra0 = s.ra0 := by
  rw [csrWrite_eq]

@[simp] theorem opMad_ra0 (sh : MadShift) (sat : Bool) (lane : Lane) : (opMad sh sat lane s).ra0 = s.ra0 := by
  simp [opMad]

@[simp] theorem opTakeSource_ra0 (cond : Bool) : (opTakeSource cond s).ra0 = s.ra0 := by simp [opTakeSource]

@[simp] theorem xmemAccess_ra0 (op : MemOp) (a : Half) : (xmemAccess m op a s).ra0 = s.ra0 := by
  cases op <;> rfl

/-- XMEM writes RA0 only where it post-modifies it: through RA1 it is not selected, and without AM the
selected register is written back as it was (45_xmem.md R263, R264). -/
theorem opXmem_ra0_cases (op : MemOp) (post : Bool) (dir : StrideDir) (ar : AddrReg) :
    (opXmem m op post dir ar s).ra0 = s.ra0 ∨ (post = true ∧ ar = .ra0) := by
  cases ar with
  | ra1 => exact .inl (by simp [opXmem])
  | ra0 =>
    cases post with
    | false => exact .inl rfl
    | true => exact .inr ⟨rfl, rfl⟩

end ra0

/-! ### The writers of RA0 (44_structural.md R241) -/

/-- A meaning that keeps RA0 in every link mode keeps it. -/
theorem inMode_keeps_ra0 {s t : State} {f : LinkMode → State} (h : inMode s f = .next t)
    (hf : ∀ m, (f m).ra0 = s.ra0) : t.ra0 = s.ra0 := by
  obtain ⟨m, -, rfl⟩ := inMode_next h
  exact hf m

theorem opReserved_keeps_ra0 {keep : Bool} {s t : State} (h : opReserved keep s = .next t) :
    t.ra0 = s.ra0 := by
  obtain ⟨rfl, -⟩ := opReserved_next h
  exact complete_ra0 s

theorem execXmem_ra0_cases {op : MemOp} {post : Bool} {dir : StrideDir} {ar : AddrReg} {s t : State}
    (h : execXmem op post dir ar s = .next t) : t.ra0 = s.ra0 ∨ (post = true ∧ ar = .ra0) := by
  obtain ⟨m, -, rfl⟩ := inMode_next h
  exact opXmem_ra0_cases m s op post dir ar

/-- RA0 is written by SA, RSA and an XMEM post-modification of RA0; a reserved opcode that answers is a no-op,
and every other meaning is made of operations that keep RA0. -/
theorem exec_ra0_cases {i : Instr} {s t : State} (h : exec i s = .next t) :
    t.ra0 = s.ra0 ∨ i = .sa ∨ i = .rsa ∨ ∃ op d, i = .xmem op true d .ra0 := by
  cases i with
  | sa => exact .inr (.inl rfl)
  | rsa => exact .inr (.inr (.inl rfl))
  | xmem op post dir ar =>
    obtain hkeep | ⟨rfl, rfl⟩ := execXmem_ra0_cases h
    · exact .inl hkeep
    · exact .inr (.inr (.inr ⟨op, dir, rfl⟩))
  | rsv0100 | rsv1100 | rsv1000 | rsv0000 => exact .inl (opReserved_keeps_ra0 h)
  | _ => exact .inl (inMode_keeps_ra0 h fun m => by simp)

/-- Settles O31: each exchange is its record update followed by the common completion, whatever the link
mode is, and the writers of RA0 are those of `exec_ra0_cases`. -/
theorem fullExchanges : Obligations.FullExchanges := by
  refine ⟨rfl, rfl, rfl, fun _ => ⟨rfl, rfl, rfl⟩, fun s hmode => ?_⟩
  exact ⟨exec_rss hmode, exec_rsa hmode, exec_sa hmode, fun _ _ => exec_ra0_cases⟩

end Sys2Proof.Machine
end

