-- ==== Sys2Proof/Proofs/Xmem.lean ====
section
/-! The statement of 45_xmem.md about the DIR bit: without post-modification it makes no difference. -/

namespace Sys2Proof.Machine

/-! ### The function nibble (30_encoding.md R128) -/

theorem decodeDefault_xmem (c : DecodeCtx) (f n1 : Nibble) :
    decodeDefault c 0b1100 f n1 = .xmem (memOpOf f) (f.getLsbD 2) (strideDirOf f) (addrRegOf f) := rfl

/-- A two-nibble stream holds an instruction that has one immediate nibble. -/
theorem decode_pair {c : DecodeCtx} {op n0 : Nibble} (h : (decodeNibbles c op n0 0).immNibbles = 1) :
    decode c [op, n0] = .ok (decodeNibbles c op n0 0, []) := by
  rw [BitVec.ofNat_eq_ofNat] at h
  simp [decode, h]

/-- Opcode 1100 of the Default column takes one more nibble, whose four bits are XMEM's operands. -/
theorem decode_xmem {c : DecodeCtx} (h : c.ext = false) (f : Nibble) :
    decode c [0b1100, f] =
      .ok (.xmem (memOpOf f) (f.getLsbD 2) (strideDirOf f) (addrRegOf f), []) := by
  have hxmem : decodeNibbles c 0b1100 f 0 =
      .xmem (memOpOf f) (f.getLsbD 2) (strideDirOf f) (addrRegOf f) := by
    rw [decodeNibbles_default h, decodeDefault_xmem]
  rw [decode_pair (by rw [hxmem]; rfl), hxmem]

/-- Two function nibbles with AM = 0 and the same OP and AR decode to accesses that differ in DIR at most. -/
theorem decode_xmem_same_but_dir {c : DecodeCtx} (h : c.ext = false) {f g : Nibble}
    (hf : f.getLsbD 2 = false) (hg : g.getLsbD 2 = false) (hop : memOpOf g = memOpOf f)
    (har : addrRegOf g = addrRegOf f) :
    ∃ op d d' ar, decode c [0b1100, f] = .ok (.xmem op false d ar, []) ∧
      decode c [0b1100, g] = .ok (.xmem op false d' ar, []) := by
  refine ⟨memOpOf f, strideDirOf f, strideDirOf g, addrRegOf f, ?_, ?_⟩
  · rw [decode_xmem h, hf]
  · rw [decode_xmem h, hg, hop, har]

/-! ### XMEM without post-modification (45_xmem.md R263, R264) -/

@[simp] theorem postAddr_false (m : LinkMode) (dir : StrideDir) (a : Half) :
    postAddr m false dir a = a := rfl

/-- Neither a load nor a store writes an address register. -/
@[simp] theorem xmemAccess_addrReg (m : LinkMode) (op : MemOp) (a : Half) (s : State) (ar : AddrReg) :
    (xmemAccess m op a s).addrReg ar = s.addrReg ar := by
  cases op <;> rfl

@[simp] theorem setAddrReg_addrReg_self (s : State) (ar : AddrReg) :
    s.setAddrReg ar (s.addrReg ar) = s := by
  cases ar <;> rfl

/-- Without AM the selected register is written back as it was, so XMEM is its access alone. -/
theorem opXmem_without_post (m : LinkMode) (op : MemOp) (dir : StrideDir) (ar : AddrReg) (s : State) :
    opXmem m op false dir ar s = xmemAccess m op (s.addrReg ar) s := by
  calc opXmem m op false dir ar s
      = (xmemAccess m op (s.addrReg ar) s).setAddrReg ar
          ((xmemAccess m op (s.addrReg ar) s).addrReg ar) := by
        rw [opXmem, postAddr_false, xmemAccess_addrReg]
    _ = xmemAccess m op (s.addrReg ar) s := setAddrReg_addrReg_self _ ar

/-- What XMEM does without AM, in which DIR does not occur. -/
theorem exec_xmem_without_post (op : MemOp) (dir : StrideDir) (ar : AddrReg) (s : State) :
    exec (.xmem op false dir ar) s =
      inMode s fun m => complete (xmemAccess m op (s.addrReg ar) s) := by
  change execXmem op false dir ar s = _
  simp only [execXmem, opXmem_without_post]

/-- Settles O40: the nibbles of each pair have AM = 0 and agree in OP and AR, and the meaning without AM is
the access alone, whatever DIR is. -/
theorem dirIgnoredWithoutPostModify : Obligations.DirIgnoredWithoutPostModify := by
  refine ⟨fun c hcol p hp => ?_, fun s op d d' ar => ?_⟩
  · simp only [List.mem_cons, List.not_mem_nil, or_false] at hp
    obtain rfl | rfl | rfl | rfl := hp <;>
      exact decode_xmem_same_but_dir hcol rfl rfl rfl rfl
  · rw [exec_xmem_without_post, exec_xmem_without_post]

end Sys2Proof.Machine
end

section
/-! Encoding and fetch (30_encoding.md): the decoder and the encoder are inverse to each other, and what the
fetch hands to the decoder. -/

namespace Sys2Proof.Machine

/-! ### Operand fields put together and taken apart (30_encoding.md R116, R118, R128, R129) -/

@[simp] theorem imm8Of_low_high (b : Byte) : imm8Of (lowNibble b) (highNibble b) = b := by
  simp only [imm8Of, lowNibble, highNibble]
  rw [BitVec.extractLsb'_append_extractLsb'_eq_extractLsb' (by rfl)]
  simp

@[simp] theorem lowNibble_imm8Of (n0 n1 : Nibble) : lowNibble (imm8Of n0 n1) = n0 := by
  revert n0 n1; decide

@[simp] theorem highNibble_imm8Of (n0 n1 : Nibble) : highNibble (imm8Of n0 n1) = n1 := by
  revert n0 n1; decide

theorem fields_xmemNibble (op : MemOp) (post : Bool) (dir : StrideDir) (ar : AddrReg) :
    memOpOf (xmemNibble op post dir ar) = op ∧ (xmemNibble op post dir ar).getLsbD 2 = post ∧
      strideDirOf (xmemNibble op post dir ar) = dir ∧ addrRegOf (xmemNibble op post dir ar) = ar := by
  cases op <;> cases post <;> cases dir <;> cases ar <;> decide

@[simp] theorem xmemNibble_fields (f : Nibble) :
    xmemNibble (memOpOf f) (f.getLsbD 2) (strideDirOf f) (addrRegOf f) = f := by
  revert f; decide

theorem fields_madNibble (sh : MadShift) (sat : Bool) (lane : Lane) :
    madShiftOf (madNibble sh sat lane) = sh ∧ (madNibble sh sat lane).getLsbD 1 = sat ∧
      laneOf (madNibble sh sat lane) = lane := by
  cases sh <;> cases sat <;> cases lane <;> decide

@[simp] theorem madNibble_fields (n : Nibble) :
    madNibble (madShiftOf n) (n.getLsbD 1) (laneOf n) = n := by
  revert n; decide

/-! ### What a nibble and the two after it are read as -/

/-- `i` is a row that applies in `c`, and the nibbles it takes of `op`, `n0`, `n1` are its encoding. -/
def ReadsAs (c : DecodeCtx) (op n0 n1 : Nibble) (i : Instr) : Prop :=
  i.wellFormed c = true ∧ encode i = op :: [n0, n1].take i.immNibbles

section reads
variable {c : DecodeCtx} {op n0 n1 : Nibble}

/-- Nothing but the row's condition is left to check where the encoding is the row's own. -/
theorem ReadsAs.of_wellFormed {i : Instr} (henc : encode i = op :: [n0, n1].take i.immNibbles)
    (hwf : i.wellFormed c = true) : ReadsAs c op n0 n1 i := ⟨hwf, henc⟩

theorem encode_opI8 (op n0 n1 : Nibble) : opI8 op (imm8Of n0 n1) = op :: [n0, n1].take 2 := by
  simp [opI8]

/-- The three rows of an ALU opcode: register form, one and two immediate nibbles (30_encoding.md R117). -/
theorem readsAs_aluForm {ext : Bool} {reg : Instr} {i4 : Nibble → Instr} {i8 : Byte → Instr}
    (hcol : c.ext = ext)
    (wreg : reg.wellFormed c = c.regForm ext) (ereg : encode reg = op :: [n0, n1].take reg.immNibbles)
    (w4 : (i4 n0).wellFormed c = c.immForm ext .one)
    (e4 : encode (i4 n0) = op :: [n0, n1].take (i4 n0).immNibbles)
    (w8 : (i8 (imm8Of n0 n1)).wellFormed c = c.immForm ext .two)
    (e8 : encode (i8 (imm8Of n0 n1)) = op :: [n0, n1].take (i8 (imm8Of n0 n1)).immNibbles) :
    ReadsAs c op n0 n1 (aluForm c n0 n1 reg i4 i8) := by
  unfold aluForm byImmLen
  cases himm : c.imm with
  | false => exact ⟨by simp [wreg, DecodeCtx.regForm, hcol, himm], ereg⟩
  | true =>
    cases hlen : c.len with
    | one => exact ⟨by simp [w4, DecodeCtx.immForm, hcol, himm, hlen], e4⟩
    | two => exact ⟨by simp [w8, DecodeCtx.immForm, hcol, himm, hlen], e8⟩

theorem readsAs_byImmLen {i4 : Nibble → Instr} {i8 : Byte → Instr}
    (h4 : c.len = .one → ReadsAs c op n0 n1 (i4 n0))
    (h8 : c.len = .two → ReadsAs c op n0 n1 (i8 (imm8Of n0 n1))) :
    ReadsAs c op n0 n1 (byImmLen c.len n0 n1 i4 i8) := by
  cases hlen : c.len with
  | one => exact h4 hlen
  | two => exact h8 hlen

theorem readsAs_branchForm {i4 : Nibble → Instr} {i8 : Byte → Instr}
    (h4 : c.bw = false → ReadsAs c op n0 n1 (i4 n0))
    (h8 : c.bw = true → ReadsAs c op n0 n1 (i8 (imm8Of n0 n1))) :
    ReadsAs c op n0 n1 (branchForm c n0 n1 i4 i8) := by
  unfold branchForm
  cases hbw : c.bw with
  | false => exact h4 hbw
  | true => exact h8 hbw

/-- A row chosen by one condition. -/
theorem readsAs_ite {b : Bool} {i j : Instr} (hi : b = true → ReadsAs c op n0 n1 i)
    (hj : b = false → ReadsAs c op n0 n1 j) : ReadsAs c op n0 n1 (if b then i else j) := by
  cases b with
  | false => exact hj rfl
  | true => exact hi rfl

/-- The three rows of a profile opcode of the Extended column: that of the MAD profile in SPE, that of the
Interrupt Profile elsewhere, and the reserved one (30_encoding.md R121). -/
theorem readsAs_profile {mad int rsv : Instr} (hcol : c.ext = true)
    (wmad : mad.wellFormed c = (c.ext && c.spe)) (emad : encode mad = op :: [n0, n1].take mad.immNibbles)
    (wint : int.wellFormed c = (c.ext && !c.spe && c.par.hasInt))
    (eint : encode int = op :: [n0, n1].take int.immNibbles)
    (wrsv : rsv.wellFormed c = (c.ext && !c.spe && !c.par.hasInt))
    (ersv : encode rsv = op :: [n0, n1].take rsv.immNibbles) :
    ReadsAs c op n0 n1 (if c.spe then mad else if c.par.hasInt then int else rsv) :=
  readsAs_ite (fun hs => ⟨by simp [wmad, hcol, hs], emad⟩) fun hs =>
    readsAs_ite (fun hi => ⟨by simp [wint, hcol, hs, hi], eint⟩)
      (fun hi => ⟨by simp [wrsv, hcol, hs, hi], ersv⟩)

end reads

theorem nibble_cases (op : Nibble) :
    op = 0b0000 ∨ op = 0b0001 ∨ op = 0b0010 ∨ op = 0b0011 ∨ op = 0b0100 ∨ op = 0b0101 ∨ op = 0b0110 ∨
      op = 0b0111 ∨ op = 0b1000 ∨ op = 0b1001 ∨ op = 0b1010 ∨ op = 0b1011 ∨ op = 0b1100 ∨
      op = 0b1101 ∨ op = 0b1110 ∨ op = 0b1111 := by
  revert op; decide

open ReadsAs in
/-- The Default column, opcode by opcode (30_encoding.md R120). -/
theorem readsAs_decodeDefault {c : DecodeCtx} (hcol : c.ext = false) (op n0 n1 : Nibble) :
    ReadsAs c op n0 n1 (decodeDefault c op n0 n1) := by
  have hdef {i : Instr} (hwf : i.wellFormed c = !c.ext)
      (henc : encode i = op :: [n0, n1].take i.immNibbles) : ReadsAs c op n0 n1 i :=
    of_wellFormed henc (by rw [hwf, hcol]; rfl)
  obtain rfl | rfl | rfl | rfl | rfl | rfl | rfl | rfl | rfl | rfl | rfl | rfl | rfl | rfl | rfl | rfl :=
    nibble_cases op
  · exact hdef rfl rfl
  · exact readsAs_aluForm hcol rfl rfl rfl rfl rfl (encode_opI8 _ n0 n1)
  · exact hdef rfl rfl
  · exact hdef rfl rfl
  · exact readsAs_byImmLen (fun h => of_wellFormed rfl (by simp [Instr.wellFormed, hcol, h]))
      (fun h => of_wellFormed (encode_opI8 _ n0 n1) (by simp [Instr.wellFormed, hcol, h]))
  · exact readsAs_aluForm hcol rfl rfl rfl rfl rfl (encode_opI8 _ n0 n1)
  · exact readsAs_ite
      (fun hw => readsAs_ite
        (fun hcsr => of_wellFormed rfl (by simp [Instr.wellFormed, hcol, hw, hcsr]))
        (fun hcsr => of_wellFormed rfl (by simp [Instr.wellFormed, hcol, hw, hcsr])))
      (fun hw => of_wellFormed rfl (by simp [Instr.wellFormed, hcol, hw]))
  · exact readsAs_branchForm (fun h => of_wellFormed rfl (by simp [Instr.wellFormed, hcol, h]))
      (fun h => of_wellFormed (encode_opI8 _ n0 n1) (by simp [Instr.wellFormed, hcol, h]))
  · exact hdef rfl rfl
  · exact hdef rfl rfl
  · exact hdef rfl rfl
  · exact readsAs_aluForm hcol rfl rfl rfl rfl rfl (encode_opI8 _ n0 n1)
  · exact hdef rfl (congrArg (fun f => [0b1100, f]) (xmemNibble_fields n0))
  · exact readsAs_aluForm hcol rfl rfl rfl rfl rfl (encode_opI8 _ n0 n1)
  · exact hdef rfl rfl
  · exact hdef rfl rfl

open ReadsAs in
/-- The Extended column, opcode by opcode (30_encoding.md R121). -/
theorem readsAs_decodeExtended {c : DecodeCtx} (hcol : c.ext = true) (op n0 n1 : Nibble) :
    ReadsAs c op n0 n1 (decodeExtended c op n0 n1) := by
  have hext {i : Instr} (hwf : i.wellFormed c = c.ext)
      (henc : encode i = op :: [n0, n1].take i.immNibbles) : ReadsAs c op n0 n1 i :=
    of_wellFormed henc (by rw [hwf, hcol])
  obtain rfl | rfl | rfl | rfl | rfl | rfl | rfl | rfl | rfl | rfl | rfl | rfl | rfl | rfl | rfl | rfl :=
    nibble_cases op
  · exact readsAs_profile hcol rfl rfl rfl rfl rfl rfl
  · exact readsAs_aluForm hcol rfl rfl rfl rfl rfl (encode_opI8 _ n0 n1)
  · exact hext rfl (encode_opI8 _ n0 n1)
  · exact hext rfl rfl
  · exact readsAs_ite (fun h => of_wellFormed rfl (by simp [Instr.wellFormed, hcol, h]))
      (fun h => of_wellFormed rfl (by simp [Instr.wellFormed, hcol, h]))
  · exact hext rfl rfl
  · exact readsAs_ite
      (fun hw => readsAs_ite
        (fun hcsr => of_wellFormed rfl (by simp [Instr.wellFormed, hcol, hw, hcsr]))
        (fun hcsr => of_wellFormed rfl (by simp [Instr.wellFormed, hcol, hw, hcsr])))
      (fun hw => of_wellFormed rfl (by simp [Instr.wellFormed, hcol, hw]))
  · exact readsAs_branchForm (fun h => of_wellFormed rfl (by simp [Instr.wellFormed, hcol, h]))
      (fun h => of_wellFormed (encode_opI8 _ n0 n1) (by simp [Instr.wellFormed, hcol, h]))
  · exact readsAs_profile hcol rfl rfl rfl rfl rfl rfl
  · exact hext rfl rfl
  · exact hext rfl rfl
  · exact readsAs_aluForm hcol rfl rfl rfl rfl rfl (encode_opI8 _ n0 n1)
  · exact readsAs_profile hcol rfl (congrArg (fun f => [0b1100, f]) (madNibble_fields n0)) rfl rfl rfl rfl
  · exact readsAs_aluForm hcol rfl rfl rfl rfl rfl (encode_opI8 _ n0 n1)
  · exact hext rfl rfl
  · exact hext rfl rfl

theorem decodeNibbles_extended {c : DecodeCtx} (h : c.ext = true) (op n0 n1 : Nibble) :
    decodeNibbles c op n0 n1 = decodeExtended c op n0 n1 := by
  simp [decodeNibbles, h]

/-- Whatever the three nibbles are, the decoder reads a row that applies, from its own encoding. -/
theorem readsAs_decodeNibbles (c : DecodeCtx) (op n0 n1 : Nibble) :
    ReadsAs c op n0 n1 (decodeNibbles c op n0 n1) := by
  cases hcol : c.ext with
  | false => rw [decodeNibbles_default hcol]; exact readsAs_decodeDefault hcol op n0 n1
  | true => rw [decodeNibbles_extended hcol]; exact readsAs_decodeExtended hcol op n0 n1

/-- A row applies in its own column only (30_encoding.md R121). -/
theorem extended_of_wellFormed {c : DecodeCtx} {i : Instr} (h : i.wellFormed c = true) :
    i.extended = c.ext := by
  cases i <;>
    simp only [Instr.wellFormed, DecodeCtx.regForm, DecodeCtx.immForm, Bool.and_eq_true, beq_iff_eq,
      Bool.not_eq_true'] at h <;>
    simp [Instr.extended, h]

/-! ### Decoding a stream -/

/-- What a successful decoding says: the stream begins with an opcode, the instruction is the one read from
it and the two nibbles that follow, and enough of them are there. -/
theorem decode_ok {c : DecodeCtx} {ns rest : List Nibble} {i : Instr} (h : decode c ns = .ok (i, rest)) :
    ∃ op tail, ns = op :: tail ∧ i = decodeNibbles c op (tail.getD 0 0) (tail.getD 1 0) ∧
      i.immNibbles ≤ tail.length ∧ rest = tail.drop i.immNibbles := by
  cases ns with
  | nil => cases h
  | cons op tail =>
    simp only [decode] at h
    split at h
    · cases h
    · cases h
      exact ⟨op, tail, rfl, rfl, by omega, rfl⟩

/-- The first nibbles of a stream, read one at a time. -/
theorem take_getD (tail : List Nibble) {k : Nat} (hk : k ≤ 2) (hl : k ≤ tail.length) :
    [tail.getD 0 0, tail.getD 1 0].take k = tail.take k := by
  match tail, k, hk with
  | _, 0, _ => rfl
  | _ :: _, 1, _ => rfl
  | _ :: _ :: _, 2, _ => rfl
  | [_], 2, _ => simp at hl

/-- Settles O2: what `decodeNibbles` reads is well formed and its encoding is the nibbles it takes; the
decoder drops just these from the stream. -/
theorem encodeOfDecode : Obligations.EncodeOfDecode := by
  intro c ns rest i h
  obtain ⟨op, tail, rfl, hi, hl, rfl⟩ := decode_ok h
  obtain ⟨hwf, henc⟩ := readsAs_decodeNibbles c op (tail.getD 0 0) (tail.getD 1 0)
  rw [← hi] at hwf henc
  refine ⟨hwf, ?_⟩
  rw [henc, take_getD tail (immNibbles_le i) hl, List.cons_append, List.take_append_drop]

/-- A stream of three nibbles or more holds a whole instruction. -/
theorem decode_three (c : DecodeCtx) (op n0 n1 : Nibble) (rest : List Nibble) :
    decode c (op :: n0 :: n1 :: rest) =
      .ok (decodeNibbles c op n0 n1,
        (n0 :: n1 :: rest).drop (decodeNibbles c op n0 n1).immNibbles) := by
  have hle := immNibbles_le (decodeNibbles c op n0 n1)
  simp only [decode, List.getD_cons_zero, List.getD_cons_succ, List.length_cons]
  rw [if_neg (by omega)]

/-- Settles O3: the instruction read is well formed, hence of the context's column, and its encoding
begins with the opcode. -/
theorem everyOpcodeDecodes : Obligations.EveryOpcodeDecodes := by
  intro c op n0 n1 rest
  obtain ⟨hwf, henc⟩ := readsAs_decodeNibbles c op n0 n1
  exact ⟨_, _, decode_three c op n0 n1 rest, extended_of_wellFormed hwf, by rw [henc]; rfl⟩

/-! ### Decoding an encoding -/

section decodes
variable {c : DecodeCtx} {ext : Bool} {reg : Instr} {i4 : Nibble → Instr} {i8 : Byte → Instr}

theorem aluForm_of_regForm (h : c.regForm ext = true) (n0 n1 : Nibble) :
    aluForm c n0 n1 reg i4 i8 = reg := by
  simp only [DecodeCtx.regForm, Bool.and_eq_true, Bool.not_eq_true'] at h
  simp [aluForm, h]

theorem aluForm_of_immForm {len : ImmLen} (h : c.immForm ext len = true) (n0 n1 : Nibble) :
    aluForm c n0 n1 reg i4 i8 = byImmLen len n0 n1 i4 i8 := by
  simp only [DecodeCtx.immForm, Bool.and_eq_true, beq_iff_eq] at h
  simp [aluForm, h]

end decodes

/-- An instruction is decoded from a stream that begins with its opcode and immediate nibbles. -/
theorem decode_append {c : DecodeCtx} {op : Nibble} {imms rest : List Nibble} {i : Instr}
    (hl : i.immNibbles = imms.length)
    (hi : decodeNibbles c op ((imms ++ rest).getD 0 0) ((imms ++ rest).getD 1 0) = i) :
    decode c (op :: imms ++ rest) = .ok (i, rest) := by
  simp only [List.cons_append, decode, hi]
  simp [hl]

/-- The opcode map gives an instruction back from its own nibbles, in a context where its row applies. -/
theorem decodeNibbles_encode {c : DecodeCtx} {i : Instr} (h : i.wellFormed c = true) (rest : List Nibble) :
    decodeNibbles c ((encode i ++ rest).getD 0 0) ((encode i ++ rest).getD 1 0)
      ((encode i ++ rest).getD 2 0) = i := by
  have hcol := extended_of_wellFormed h
  cases i with
  | add | and_ | or_ | btst =>
    rw [decodeNibbles_default hcol.symm]; exact aluForm_of_regForm h _ _
  | sub | xor_ | tst =>
    rw [decodeNibbles_extended hcol.symm]; exact aluForm_of_regForm h _ _
  | addi4 | andi4 | ori4 | btsti4 =>
    rw [decodeNibbles_default hcol.symm]; exact aluForm_of_immForm h _ _
  | subi4 | xori4 | tsti4 =>
    rw [decodeNibbles_extended hcol.symm]; exact aluForm_of_immForm h _ _
  | addi8 imm | andi8 imm | ori8 imm | btsti8 imm =>
    rw [decodeNibbles_default hcol.symm]
    exact (aluForm_of_immForm h _ _).trans (congrArg _ (imm8Of_low_high imm))
  | subi8 imm | xori8 imm | tsti8 imm =>
    rw [decodeNibbles_extended hcol.symm]
    exact (aluForm_of_immForm h _ _).trans (congrArg _ (imm8Of_low_high imm))
  | inc | shl | jal | cmp | rss | ss | xop | nop => rw [decodeNibbles_default hcol.symm]; rfl
  | dec | inv | shr | jmp | rsa | sa => rw [decodeNibbles_extended hcol.symm]; rfl
  | cfg imm =>
    rw [decodeNibbles_extended hcol.symm]; exact congrArg Instr.cfg (imm8Of_low_high imm)
  | xmem op post dir ar =>
    rw [decodeNibbles_default hcol.symm]
    obtain ⟨hop, hpost, hdir, har⟩ := fields_xmemNibble op post dir ar
    exact congr (congr (congr (congrArg Instr.xmem hop) hpost) hdir) har
  | ldi4 | beqz4 | racc | csrld | nop0110 =>
    simp only [Instr.wellFormed, Bool.and_eq_true, Bool.not_eq_true', beq_iff_eq] at h
    rw [decodeNibbles_default hcol.symm]
    simp [encode, decodeDefault, byImmLen, branchForm, h]
  | ldi8 imm | beqz8 imm =>
    simp only [Instr.wellFormed, Bool.and_eq_true, Bool.not_eq_true', beq_iff_eq] at h
    rw [decodeNibbles_default hcol.symm]
    simp [encode, opI8, decodeDefault, byImmLen, branchForm, h]
  | bc8 imm =>
    simp only [Instr.wellFormed, Bool.and_eq_true] at h
    rw [decodeNibbles_extended hcol.symm]
    simp [encode, opI8, decodeExtended, branchForm, h]
  | mad sh sat lane =>
    simp only [Instr.wellFormed, Bool.and_eq_true] at h
    obtain ⟨-, hspe⟩ := h
    obtain ⟨hsh, hsat, hlane⟩ := fields_madNibble sh sat lane
    rw [decodeNibbles_extended hcol.symm]
    exact (if_pos hspe).trans (congr (congr (congrArg Instr.mad hsh) hsat) hlane)
  | bc4 | rrs | csrst | nop0110x | clc | rsv0100 | reti | swi | wfi | max_ | min_ | rsv1100 | rsv1000 |
      rsv0000 =>
    simp only [Instr.wellFormed, Bool.and_eq_true, Bool.not_eq_true'] at h
    rw [decodeNibbles_extended hcol.symm]
    simp [encode, decodeExtended, branchForm, h]

theorem encode_eq_cons (i : Instr) : ∃ op imms, encode i = op :: imms ∧ i.immNibbles = imms.length := by
  cases i <;> exact ⟨_, _, rfl, rfl⟩

/-- Settles O1: the opcode map gives `i` back from its nibbles, which are as many as `i` takes, so the
stream is dropped to `rest`. -/
theorem decodeOfEncode : Obligations.DecodeOfEncode := by
  intro c i rest h
  have hi := decodeNibbles_encode h rest
  obtain ⟨op, imms, henc, hl⟩ := encode_eq_cons i
  rw [henc] at hi ⊢
  exact decode_append hl hi

/-- Settles O4: each word is the encoding of its instruction, whose row applies in its context. -/
theorem sampleWordsDecode : Obligations.SampleWordsDecode :=
  ⟨decodeOfEncode _ .add [] rfl, decodeOfEncode _ (.addi4 7) [] rfl, decodeOfEncode _ (.xori8 0xA5) [] rfl,
    decodeOfEncode _ (.cfg 0x41) [] rfl, decodeOfEncode _ (.beqz8 0x04) [] rfl,
    decodeOfEncode _ (.xmem .store true .up .ra1) [] rfl, decodeOfEncode _ (.csrst 4) [] rfl,
    decodeOfEncode _ .reti [] rfl, decodeOfEncode _ (.mad .by4 true .low) [] rfl⟩

/-! ### Fetch (30_encoding.md R111) -/

/-- Settles O5: the four combinations of phase and NIBBLE_ORDER, and the two cases of `State.advance`. -/
theorem fetchTakesNibblesInOrder : Obligations.FetchTakesNibblesInOrder := by
  intro s
  refine ⟨?_, rfl⟩
  unfold State.nextNibble nibbleOfByte
  cases s.par.nibbleOrder <;> cases s.nib <;> simp [lowNibble, highNibble]

end Sys2Proof.Machine
end

section
/-! Which state each instruction can write, and what NV_RULE changes of it (10_state.md sections 1 to 6). -/

namespace Sys2Proof.Machine

/-- `s` with the fields that instruction `i` may write taken from `t`: the writers of each register, beside
XOPP, CMPP and Z, which `exec_sequencing` speaks of (10_state.md sections 1 to 6). -/
def written (i : Instr) (s t : State) : State :=
  match i with
  | .add | .addi4 _ | .addi8 _ | .sub | .subi4 _ | .subi8 _ | .inc | .dec =>
    State.applyNvRule { s with acc := t.acc, c := t.c, n := t.n, v := t.v }
  | .and_ | .andi4 _ | .andi8 _ | .or_ | .ori4 _ | .ori8 _ | .xor_ | .xori4 _ | .xori8 _ | .inv =>
    State.applyNvRule { s with acc := t.acc }
  | .max_ | .min_ => State.applyNvRule { s with acc := t.acc }
  | .shl | .shr | .mad _ _ _ => State.applyNvRule { s with acc := t.acc, c := t.c }
  | .btst | .btsti4 _ | .btsti8 _ | .tst | .tsti4 _ | .tsti8 _ => State.applyNvRule { s with c := t.c }
  | .cmp => State.applyNvRule { s with c := t.c, n := t.n, v := t.v }
  | .beqz4 _ | .beqz8 _ | .bc4 _ | .bc8 _ | .jmp => { s with pc := t.pc, nib := t.nib }
  | .jal => { s with pc := t.pc, nib := t.nib, ra1 := t.ra1 }
  | .cfg _ => { s with cfg := t.cfg }
  | .racc | .ldi4 _ | .ldi8 _ | .csrld _ => { s with acc := t.acc }
  | .rrs => { s with rs0 := t.rs0 }
  | .csrst idx =>
    { s with
      cfg := if idx = 0 then t.cfg else s.cfg
      timer := if idx = 1 then t.timer else s.timer
      timerCmp := if idx = 2 then t.timerCmp else s.timerCmp
      swIE := if idx = 3 then t.swIE else s.swIE
      extIE := if idx = 3 then t.extIE else s.extIE
      tIE := if idx = 3 then t.tIE else s.tIE
      wdog := if idx = 3 then t.wdog else s.wdog
      dbgStep := if idx = 3 then t.dbgStep else s.dbgStep
      extP := if idx = 3 then t.extP else s.extP
      tP := if idx = 3 then t.tP else s.tP
      swP := if idx = 3 then t.swP else s.swP
      ia := if idx = 4 then t.ia else s.ia
      gpr1 := if idx = 5 then t.gpr1 else s.gpr1
      gpr2 := if idx = 6 then t.gpr2 else s.gpr2
      gpr3 := if idx = 7 then t.gpr3 else s.gpr3 }
  | .rss => { s with rs0 := t.rs0, rs1 := t.rs1 }
  | .rsa => { s with ra0 := t.ra0, ra1 := t.ra1 }
  | .ss => { s with acc := t.acc, rs0 := t.rs0 }
  | .sa => { s with acc := t.acc, ra0 := t.ra0 }
  | .clc => { s with c := t.c }
  | .xmem op post _ ar =>
    { s with
      acc := if op = .load then t.acc else s.acc
      mem := if op = .store then t.mem else s.mem
      ra0 := if post = true ∧ ar = .ra0 then t.ra0 else s.ra0
      ra1 := if post = true ∧ ar = .ra1 then t.ra1 else s.ra1 }
  | .reti =>
    { s with
      pc := t.pc, nib := t.nib, cfg := t.cfg, c := t.c, n := t.n, v := t.v, ra1 := t.ra1, ia := t.ia,
      iar := t.iar, inIsr := t.inIsr }
  | .swi => { s with swP := t.swP }
  | .wfi => { s with sleep := t.sleep }
  | .xop | .nop | .nop0110 | .nop0110x | .rsv0100 | .rsv1100 | .rsv1000 | .rsv0000 => s

/-- `t` is `u` but for the three bits that the completion of an instruction governs. -/
def EqButSequencing (t u : State) : Prop := t = { u with xopp := t.xopp, cmpp := t.cmpp, z := t.z }

/-- A state that was completed. -/
theorem eqButSequencing_complete (u : State) : EqButSequencing (complete u) u := rfl

/-! ### The CSR write function, index by index (46_csr_access.md R283) -/

section csrWrite
variable (s : State) (v : Half)

theorem csrWrite_cfg : csrWrite s 0 v = { s with cfg := lowByte v } := rfl

theorem csrWrite_timer : csrWrite s 1 v = { s with timer := if s.par.hasTimer then v else s.timer } := by
  change (if s.par.hasTimer then _ else s) = _; split <;> rfl

theorem csrWrite_timerCmp :
    csrWrite s 2 v = { s with timerCmp := if s.par.hasTimerCmp then v else s.timerCmp } := by
  change (if s.par.hasTimerCmp then _ else s) = _; split <;> rfl

theorem csrWrite_intctrl : csrWrite s 3 v = if s.par.hasInt then writeIntctrl s v else s := rfl

theorem csrWrite_ia : csrWrite s 4 v = { s with ia := if s.par.hasInt then lowByte v else s.ia } := by
  change (if s.par.hasInt then _ else s) = _; split <;> rfl

theorem csrWrite_gpr1 : csrWrite s 5 v = { s with gpr1 := if s.par.hasGpr then v else s.gpr1 } := by
  change (if s.par.hasGpr then _ else s) = _; split <;> rfl

theorem csrWrite_gpr2 : csrWrite s 6 v = { s with gpr2 := if s.par.hasGpr then v else s.gpr2 } := by
  change (if s.par.hasGpr then _ else s) = _; split <;> rfl

theorem csrWrite_gpr3 : csrWrite s 7 v = { s with gpr3 := if s.par.hasGpr then v else s.gpr3 } := by
  change (if s.par.hasGpr then _ else s) = _; split <;> rfl

/-- CPUID and the reserved CSRs ignore writes. -/
theorem csrWrite_ignored {idx : Nibble} (h : 8 ≤ idx.toNat) : csrWrite s idx v = s := by
  unfold csrWrite
  split
  any_goals omega
  rfl

end csrWrite

/-- The writable CSRs, and the rest. -/
theorem csrIndex_cases (idx : Nibble) :
    idx = 0 ∨ idx = 1 ∨ idx = 2 ∨ idx = 3 ∨ idx = 4 ∨ idx = 5 ∨ idx = 6 ∨ idx = 7 ∨ 8 ≤ idx.toNat := by
  revert idx; decide

/-- A CSR write changes the fields behind the CSR of its index (46_csr_access.md R283). -/
theorem csrWrite_written (s : State) (idx : Nibble) (v : Half) :
    csrWrite s idx v = written (.csrst idx) s (csrWrite s idx v) := by
  obtain rfl | rfl | rfl | rfl | rfl | rfl | rfl | rfl | h := csrIndex_cases idx
  · rfl
  · rw [csrWrite_timer]; rfl
  · rw [csrWrite_timerCmp]; rfl
  · rw [csrWrite_intctrl]; split <;> rfl
  · rw [csrWrite_ia]; rfl
  · rw [csrWrite_gpr1]; rfl
  · rw [csrWrite_gpr2]; rfl
  · rw [csrWrite_gpr3]; rfl
  · rw [csrWrite_ignored s v h]; simp [written]

/-- Every instruction writes at most its registers of `written`, beside XOPP, CMPP and Z. -/
theorem exec_written {i : Instr} {s t : State} (h : exec i s = .next t) :
    EqButSequencing t (written i s t) := by
  cases i with
  | rsv0100 | rsv1100 | rsv1000 | rsv0000 =>
    obtain ⟨rfl, -⟩ := opReserved_next h
    exact eqButSequencing_complete s
  | add | addi4 | addi8 | sub | subi4 | subi8 | inc | dec | cmp =>
    obtain ⟨m, -, rfl⟩ := inMode_next h
    cases hnv : s.par.nvRule <;>
      simp [EqButSequencing, written, complete, State.applyNvRule, State.setArith, hnv,
        opAdd, opSub, opInc, opDec, opCmp]
  | and_ | andi4 | andi8 | or_ | ori4 | ori8 | xor_ | xori4 | xori8 | inv =>
    obtain ⟨m, -, rfl⟩ := inMode_next h
    cases hnv : s.par.nvRule <;>
      simp [EqButSequencing, written, complete, State.applyNvRule, State.setLogic, State.setActive, hnv,
        opAnd, opOr, opXor, opInv]
  | shl | shr | btst | btsti4 | btsti8 | tst | tsti4 | tsti8 | mad | max_ | min_ =>
    obtain ⟨m, -, rfl⟩ := inMode_next h
    cases hnv : s.par.nvRule <;>
      simp [EqButSequencing, written, complete, State.applyNvRule, State.setCarry, State.setActive, hnv,
        opShl, opShr, opBtst, opTst, opMad, opTakeSource]
  | beqz4 | beqz8 | bc4 | bc8 =>
    obtain ⟨m, -, rfl⟩ := inMode_next h
    obtain ⟨-, hb⟩ | ⟨-, hb⟩ := opBranch_cases _ _ s <;> rw [hb] <;> rfl
  | xmem op post dir ar =>
    obtain ⟨m, -, rfl⟩ := inMode_next h
    cases op <;> cases post <;> cases ar <;> rfl
  | csrst idx =>
    obtain ⟨m, -, rfl⟩ := inMode_next h
    exact congrArg complete (csrWrite_written s idx s.acc)
  | _ =>
    obtain ⟨m, -, rfl⟩ := inMode_next h
    rfl

/-- XOPP, CMPP and Z after an instruction (10_state.md R36, R37, R40). -/
theorem exec_sequencing {i : Instr} {s t : State} (h : exec i s = .next t) :
    (t.xopp = true ↔ i = .xop) ∧ (t.cmpp = true ↔ i = .cmp) ∧ (t.z = true → i = .cmp) := by
  cases i with
  | rsv0100 | rsv1100 | rsv1000 | rsv0000 =>
    obtain ⟨rfl, -⟩ := opReserved_next h
    simp
  | xop =>
    obtain ⟨m, -, rfl⟩ := inMode_next h
    simp [opXop]
  | cmp =>
    obtain ⟨m, -, rfl⟩ := inMode_next h
    simp [opCmp]
  | _ =>
    obtain ⟨m, -, rfl⟩ := inMode_next h
    simp

/-- Settles O54: XOP and CMP set their bit themselves, every other meaning ends with the common completion. -/
theorem completionClearsSequencingState : Obligations.CompletionClearsSequencingState :=
  fun _ _ _ => exec_sequencing

/-! ### The writers of each register (10_state.md sections 1 to 6, 20_memory.md section 1) -/

theorem eq_or_of_eq_ite {α : Type} {p : Prop} [Decidable p] {a b : α} (h : a = if p then a else b) :
    a = b ∨ p := by
  by_cases hp : p
  · exact .inr hp
  · exact .inl (h.trans (if_neg hp))

section registers
variable {i : Instr} {s t : State}

theorem exec_acc_cases (h : exec i s = .next t) :
    t.acc = s.acc ∨
      i ∈ [Instr.add, .sub, .inc, .dec, .and_, .or_, .xor_, .inv, .shl, .shr, .racc, .ss, .sa, .max_,
        .min_] ∨
      (∃ imm, i ∈ [Instr.addi4 imm, .subi4 imm, .andi4 imm, .ori4 imm, .xori4 imm, .ldi4 imm,
        .csrld imm]) ∨
      (∃ imm, i ∈ [Instr.addi8 imm, .subi8 imm, .andi8 imm, .ori8 imm, .xori8 imm, .ldi8 imm]) ∨
      (∃ post d ar, i = .xmem .load post d ar) ∨ ∃ sh sat lane, i = .mad sh sat lane := by
  have hw := congrArg State.acc (exec_written h)
  cases i with
  | add | sub | inc | dec | and_ | or_ | xor_ | inv | shl | shr | racc | ss | sa | max_ | min_ =>
    exact .inr (.inl (by simp))
  | addi4 imm | subi4 imm | andi4 imm | ori4 imm | xori4 imm | ldi4 imm | csrld imm =>
    exact .inr (.inr (.inl ⟨imm, by simp⟩))
  | addi8 imm | subi8 imm | andi8 imm | ori8 imm | xori8 imm | ldi8 imm =>
    exact .inr (.inr (.inr (.inl ⟨imm, by simp⟩)))
  | mad sh sat lane => exact .inr (.inr (.inr (.inr (.inr ⟨sh, sat, lane, rfl⟩))))
  | xmem op post d ar =>
    cases op with
    | load => exact .inr (.inr (.inr (.inr (.inl ⟨post, d, ar, rfl⟩))))
    | store => exact .inl hw
  | _ => exact .inl (by simpa [written] using hw)

theorem exec_rs0_cases (h : exec i s = .next t) : t.rs0 = s.rs0 ∨ i = .rss ∨ i = .ss ∨ i = .rrs := by
  have hw := congrArg State.rs0 (exec_written h)
  cases i with
  | rss | ss | rrs => simp
  | _ => exact .inl (by simpa [written] using hw)

theorem exec_rs1_cases (h : exec i s = .next t) : t.rs1 = s.rs1 ∨ i = .rss := by
  have hw := congrArg State.rs1 (exec_written h)
  cases i with
  | rss => exact .inr rfl
  | _ => exact .inl (by simpa [written] using hw)

theorem exec_ra1_cases (h : exec i s = .next t) :
    t.ra1 = s.ra1 ∨ i = .rsa ∨ i = .jal ∨ i = .reti ∨ ∃ op d, i = .xmem op true d .ra1 := by
  have hw := congrArg State.ra1 (exec_written h)
  cases i with
  | rsa | jal | reti => simp
  | xmem op post d ar =>
    by_cases hsel : post = true ∧ ar = .ra1
    · obtain ⟨rfl, rfl⟩ := hsel
      exact .inr (.inr (.inr (.inr ⟨op, d, rfl⟩)))
    · exact .inl (hw.trans (if_neg hsel))
  | _ => exact .inl (by simpa [written] using hw)

theorem exec_cfg_cases (h : exec i s = .next t) :
    t.cfg = s.cfg ∨ (∃ imm, i = .cfg imm) ∨ i = .csrst 0 ∨ i = .reti := by
  have hw := congrArg State.cfg (exec_written h)
  cases i with
  | cfg imm => exact .inr (.inl ⟨imm, rfl⟩)
  | reti => simp
  | csrst idx =>
    exact (eq_or_of_eq_ite hw).imp_right fun hidx => .inr (.inl (congrArg _ hidx))
  | _ => exact .inl (by simpa [written] using hw)

theorem exec_pc_cases (h : exec i s = .next t) :
    (t.pc = s.pc ∧ t.nib = s.nib) ∨ i = .jal ∨ i = .jmp ∨ i = .reti ∨
      (∃ imm, i = .beqz4 imm ∨ i = .bc4 imm) ∨ ∃ imm, i = .beqz8 imm ∨ i = .bc8 imm := by
  have hpc := congrArg State.pc (exec_written h)
  have hnib := congrArg State.nib (exec_written h)
  cases i with
  | jal | jmp | reti | beqz4 | bc4 | beqz8 | bc8 => simp
  | _ => exact .inl ⟨by simpa [written] using hpc, by simpa [written] using hnib⟩

theorem exec_ia_cases (h : exec i s = .next t) : t.ia = s.ia ∨ i = .csrst 4 ∨ i = .reti := by
  have hw := congrArg State.ia (exec_written h)
  cases i with
  | reti => simp
  | csrst idx =>
    exact (eq_or_of_eq_ite hw).imp_right fun hidx => .inl (congrArg _ hidx)
  | _ => exact .inl (by simpa [written] using hw)

theorem exec_iar_cases (h : exec i s = .next t) : t.iar = s.iar ∨ i = .reti := by
  have hw := congrArg State.iar (exec_written h)
  cases i with
  | reti => exact .inr rfl
  | _ => exact .inl (by simpa [written] using hw)

theorem exec_inIsr_cases (h : exec i s = .next t) : t.inIsr = s.inIsr ∨ i = .reti := by
  have hw := congrArg State.inIsr (exec_written h)
  cases i with
  | reti => exact .inr rfl
  | _ => exact .inl (by simpa [written] using hw)

theorem exec_sleep_cases (h : exec i s = .next t) : t.sleep = s.sleep ∨ i = .wfi := by
  have hw := congrArg State.sleep (exec_written h)
  cases i with
  | wfi => exact .inr rfl
  | _ => exact .inl (by simpa [written] using hw)

/-- The registers that only CSRST writes, one CSR each. -/
theorem exec_csr_cases (h : exec i s = .next t) :
    (t.timer = s.timer ∨ i = .csrst 1) ∧ (t.timerCmp = s.timerCmp ∨ i = .csrst 2) ∧
      (t.gpr1 = s.gpr1 ∨ i = .csrst 5) ∧ (t.gpr2 = s.gpr2 ∨ i = .csrst 6) ∧
      (t.gpr3 = s.gpr3 ∨ i = .csrst 7) := by
  have hw := exec_written h
  cases i with
  | csrst idx =>
    exact ⟨(eq_or_of_eq_ite (congrArg State.timer hw)).imp_right (congrArg _),
      (eq_or_of_eq_ite (congrArg State.timerCmp hw)).imp_right (congrArg _),
      (eq_or_of_eq_ite (congrArg State.gpr1 hw)).imp_right (congrArg _),
      (eq_or_of_eq_ite (congrArg State.gpr2 hw)).imp_right (congrArg _),
      (eq_or_of_eq_ite (congrArg State.gpr3 hw)).imp_right (congrArg _)⟩
  | _ => rw [hw]; simp [written]

theorem exec_intctrl_cases (h : exec i s = .next t) :
    (t.swIE = s.swIE ∧ t.extIE = s.extIE ∧ t.tIE = s.tIE ∧ t.wdog = s.wdog ∧ t.dbgStep = s.dbgStep ∧
      t.extP = s.extP ∧ t.tP = s.tP) ∨ i = .csrst 3 := by
  have hw := exec_written h
  by_cases hi : i = .csrst 3
  · exact .inr hi
  · refine .inl ?_
    cases i with
    | csrst idx =>
      have hidx : idx ≠ 3 := fun e => hi (by rw [e])
      rw [hw]
      simp only [written, if_neg hidx, and_self]
    | _ => rw [hw]; simp [written]

theorem exec_swP_cases (h : exec i s = .next t) : t.swP = s.swP ∨ i = .swi ∨ i = .csrst 3 := by
  have hw := congrArg State.swP (exec_written h)
  cases i with
  | swi => simp
  | csrst idx =>
    exact (eq_or_of_eq_ite hw).imp_right fun hidx => .inr (congrArg _ hidx)
  | _ => exact .inl (by simpa [written] using hw)

theorem exec_mem_cases (h : exec i s = .next t) :
    t.mem = s.mem ∨ ∃ post d ar, i = .xmem .store post d ar := by
  have hw := congrArg State.mem (exec_written h)
  cases i with
  | xmem op post d ar =>
    cases op with
    | load => exact .inl hw
    | store => exact .inr ⟨post, d, ar, rfl⟩
  | _ => exact .inl (by simpa [written] using hw)

theorem exec_par (h : exec i s = .next t) : t.par = s.par := by
  rw [exec_written h]
  cases i <;> simp [written]

theorem exec_env (h : exec i s = .next t) : t.env = s.env := by
  rw [exec_written h]
  cases i <;> simp [written]

theorem exec_draws_cases (h : exec i s = .next t) :
    t.draws = s.draws ∨ (s.par.nvRule = .anyAfterAlu ∧ isAlu i = true) := by
  have hw := congrArg State.draws (exec_written h)
  cases i with
  | add | addi4 | addi8 | sub | subi4 | subi8 | inc | dec | and_ | andi4 | andi8 | or_ | ori4 | ori8 |
      xor_ | xori4 | xori8 | inv | shl | shr | btst | btsti4 | btsti8 | tst | tsti4 | tsti8 | cmp | mad |
      max_ | min_ =>
    cases hnv : s.par.nvRule with
    | arithmetic => exact .inl (by simpa [written, hnv] using hw)
    | anyAfterAlu => exact .inr ⟨rfl, rfl⟩
  | _ => exact .inl hw

theorem exec_nv_cases (h : exec i s = .next t) :
    (t.n = s.n ∧ t.v = s.v) ∨ i = .inc ∨ i = .dec ∨ i = .cmp ∨ i = .reti ∨ i = .add ∨ i = .sub ∨
      (∃ imm, i = .addi4 imm ∨ i = .subi4 imm) ∨ (∃ imm, i = .addi8 imm ∨ i = .subi8 imm) ∨
      (s.par.nvRule = .anyAfterAlu ∧ isAlu i = true) := by
  have hn := congrArg State.n (exec_written h)
  have hv := congrArg State.v (exec_written h)
  cases i with
  | inc | dec | cmp | reti | add | sub | addi4 | subi4 | addi8 | subi8 => simp
  | and_ | andi4 | andi8 | or_ | ori4 | ori8 | xor_ | xori4 | xori8 | inv | shl | shr | btst | btsti4 |
      btsti8 | tst | tsti4 | tsti8 | mad | max_ | min_ =>
    cases hnv : s.par.nvRule with
    | arithmetic => exact .inl ⟨by simpa [written, hnv] using hn, by simpa [written, hnv] using hv⟩
    | anyAfterAlu => simp [isAlu]
  | _ => exact .inl ⟨hn, hv⟩

theorem exec_c_cases (h : exec i s = .next t) :
    t.c = s.c ∨ i = .inc ∨ i = .dec ∨ i = .cmp ∨ i = .reti ∨ i = .add ∨ i = .sub ∨ i = .shl ∨
      i = .shr ∨ i = .btst ∨ i = .tst ∨ i = .clc ∨ (∃ sh sat lane, i = .mad sh sat lane) ∨
      (∃ imm, i = .addi4 imm ∨ i = .subi4 imm ∨ i = .btsti4 imm ∨ i = .tsti4 imm) ∨
      ∃ imm, i = .addi8 imm ∨ i = .subi8 imm ∨ i = .btsti8 imm ∨ i = .tsti8 imm := by
  have hw := congrArg State.c (exec_written h)
  cases i with
  | inc | dec | cmp | reti | add | sub | shl | shr | btst | tst | clc | mad | addi4 | subi4 | btsti4 |
      tsti4 | addi8 | subi8 | btsti8 | tsti8 => simp
  | _ => exact .inl (by simpa [written] using hw)

end registers

/-- Settles O52: one lemma for each register, all read off `exec_written`. -/
theorem onlyListedInstructionsWrite : Obligations.OnlyListedInstructionsWrite := by
  intro i s t h
  obtain ⟨htimer, htimerCmp, hgpr1, hgpr2, hgpr3⟩ := exec_csr_cases h
  exact ⟨exec_acc_cases h, exec_rs0_cases h, exec_rs1_cases h,
    (exec_ra0_cases h).imp_right or_left_comm.mp, exec_ra1_cases h, exec_cfg_cases h,
    exec_pc_cases h, exec_ia_cases h, exec_iar_cases h, exec_inIsr_cases h, exec_sleep_cases h,
    htimer, htimerCmp, exec_intctrl_cases h, exec_swP_cases h, hgpr1, hgpr2, hgpr3, exec_mem_cases h,
    exec_draws_cases h, exec_par h, exec_env h⟩

/-- Settles O53: the writers of N and V, where NV_RULE has its part, and those of C. -/
theorem onlyListedInstructionsWriteFlags : Obligations.OnlyListedInstructionsWriteFlags :=
  fun _ _ _ h => ⟨exec_nv_cases h, exec_c_cases h⟩

/-! ### NV_RULE -/

/-- The same state in a core with the alternative NV_RULE. -/
def openNv (s : State) : State := { s with par := { s.par with nvRule := .anyAfterAlu } }

@[simp] theorem openNv_linkMode (s : State) : (openNv s).linkMode = s.linkMode := rfl

/-- By default NV_RULE at the end of an ALU instruction does nothing, so under the alternative it acts on
the state that the instruction leaves by default. -/
theorem applyNvRule_openNv {u w : State} (hw : w = openNv u) (hdef : u.par.nvRule = .arithmetic) :
    w.applyNvRule = (openNv u.applyNvRule).applyNvRule := by
  rw [hw, applyNvRule_arithmetic hdef]

theorem complete_applyNvRule_openNv {u w : State} (hw : w = openNv u)
    (hdef : u.par.nvRule = .arithmetic) :
    complete w.applyNvRule = (openNv (complete u.applyNvRule)).applyNvRule := by
  rw [hw, applyNvRule_arithmetic hdef]; rfl

theorem opBranch_openNv {k : Nat} (cond : Bool) (imm : BitVec k) (s : State) :
    opBranch cond imm (openNv s) = openNv (opBranch cond imm s) := by
  cases cond <;> rfl

theorem csrWrite_openNv (s : State) (idx : Nibble) (v : Half) :
    csrWrite (openNv s) idx v = openNv (csrWrite s idx v) := by
  obtain rfl | rfl | rfl | rfl | rfl | rfl | rfl | rfl | h := csrIndex_cases idx
  · rfl
  · rw [csrWrite_timer, csrWrite_timer]; rfl
  · rw [csrWrite_timerCmp, csrWrite_timerCmp]; rfl
  · rw [csrWrite_intctrl, csrWrite_intctrl]
    cases hint : s.par.hasInt <;> simp [openNv, hint, writeIntctrl]
  · rw [csrWrite_ia, csrWrite_ia]; rfl
  · rw [csrWrite_gpr1, csrWrite_gpr1]; rfl
  · rw [csrWrite_gpr2, csrWrite_gpr2]; rfl
  · rw [csrWrite_gpr3, csrWrite_gpr3]; rfl
  · rw [csrWrite_ignored _ v h, csrWrite_ignored _ v h]

theorem opXmem_openNv (m : LinkMode) (op : MemOp) (post : Bool) (dir : StrideDir) (ar : AddrReg)
    (s : State) : opXmem m op post dir ar (openNv s) = openNv (opXmem m op post dir ar s) := by
  cases op <;> cases ar <;> rfl

theorem opReserved_openNv {keep : Bool} {s t : State} (h : opReserved keep s = .next t) :
    opReserved keep (openNv s) = .next (openNv t) := by
  unfold opReserved at h ⊢
  rw [openNv_linkMode]
  split at h
  · cases h
  · split at h
    · cases h
    · rename_i hkeep
      cases h
      exact if_neg hkeep

/-- Every meaning with the alternative NV_RULE is the one by default, with NV_RULE after an ALU instruction. -/
theorem exec_openNv {i : Instr} {s t : State} (hdef : s.par.nvRule = .arithmetic)
    (h : exec i s = .next t) :
    exec i (openNv s) = .next (if isAlu i then (openNv t).applyNvRule else openNv t) := by
  cases i with
  | rsv0100 | rsv1100 | rsv1000 | rsv0000 => exact opReserved_openNv h
  | add | addi4 | addi8 | sub | subi4 | subi8 | inc | dec | and_ | andi4 | andi8 | or_ | ori4 | ori8 |
      xor_ | xori4 | xori8 | inv | shl | shr | btst | btsti4 | btsti8 | tst | tsti4 | tsti8 | mad |
      max_ | min_ =>
    obtain ⟨m, hm, rfl⟩ := inMode_next h
    refine (inMode_of_mode ((openNv_linkMode s).trans hm) _).trans (congrArg _ ?_)
    exact complete_applyNvRule_openNv rfl (by exact hdef)
  | cmp =>
    obtain ⟨m, hm, rfl⟩ := inMode_next h
    refine (inMode_of_mode ((openNv_linkMode s).trans hm) _).trans (congrArg _ ?_)
    exact applyNvRule_openNv rfl (by exact hdef)
  | beqz4 | beqz8 | bc4 | bc8 =>
    obtain ⟨m, hm, rfl⟩ := inMode_next h
    exact (inMode_of_mode ((openNv_linkMode s).trans hm) _).trans
      (congrArg _ (congrArg complete (opBranch_openNv _ _ s)))
  | xmem op post dir ar =>
    obtain ⟨m, hm, rfl⟩ := inMode_next h
    exact (inMode_of_mode ((openNv_linkMode s).trans hm) _).trans
      (congrArg _ (congrArg complete (opXmem_openNv m op post dir ar s)))
  | csrst idx =>
    obtain ⟨m, hm, rfl⟩ := inMode_next h
    exact (inMode_of_mode ((openNv_linkMode s).trans hm) _).trans
      (congrArg _ (congrArg complete (csrWrite_openNv s idx s.acc)))
  | _ =>
    obtain ⟨m, hm, rfl⟩ := inMode_next h
    exact inMode_of_mode ((openNv_linkMode s).trans hm) _

/-- Settles O60: `applyNvRule` by its two cases, and `exec_openNv` for what the rule leaves the same. -/
theorem nvRuleOpensFlags : Obligations.NvRuleOpensFlags := by
  refine ⟨fun t => applyNvRule_arithmetic, fun t h => ?_, fun i s t p hdef hp h => ?_⟩
  · unfold State.applyNvRule; rw [h]
  · have ht : ({ t with par := p } : State) = openNv t := by rw [hp, ← exec_par h]; rfl
    rw [ht, hp]
    exact exec_openNv hdef h

end Sys2Proof.Machine
end

section
/-! The step (60_exceptions.md R348): which line of it applies, what an event, a reset or the timer does, and
what every step keeps. -/

namespace Sys2Proof.Machine

/-! ### Which line of the step applies -/

section stepCore
variable {ex : Instr → State → Host.Outcome State Fault Refusal} {s : State} {m : LinkMode}

theorem step_of_no_event (h : s.env = []) : step s = stepCore exec s := by
  simp [step, stepWith, State.envReset, State.takeEvent, h]

theorem stepCore_asleep (hm : s.linkMode = some m) (ha : s.staysAsleep = true) :
    stepCore ex s = .next (idleTick s) := by
  unfold stepCore; rw [hm]; exact if_pos ha

theorem stepCore_awake (hm : s.linkMode = some m) (ha : s.staysAsleep = false) :
    stepCore ex s =
      if s.awaken.takesInterrupt then .next (idleTick (trapEntry s.awaken)) else stepInstr ex m s.awaken := by
  unfold stepCore; rw [hm]; simp [ha]

theorem stepCore_interrupt (hm : s.linkMode = some m) (ha : s.staysAsleep = false)
    (hi : s.awaken.takesInterrupt = true) : stepCore ex s = .next (idleTick (trapEntry s.awaken)) := by
  rw [stepCore_awake hm ha, if_pos hi]

theorem stepCore_instr (hm : s.linkMode = some m) (ha : s.staysAsleep = false)
    (hi : s.awaken.takesInterrupt = false) : stepCore ex s = stepInstr ex m s.awaken := by
  rw [stepCore_awake hm ha, hi]; rfl

theorem stepInstr_next {u : State}
    (h : ex (s.currentInstr m) (s.advanceBy (s.currentInstr m).nibbles) = .next u) :
    stepInstr ex m s = .next (retire s.armed u) := by
  unfold stepInstr; rw [h]

theorem staysAsleep_of_awake (h : s.sleep = false) : s.staysAsleep = false := by
  simp [State.staysAsleep, h]

/-- An awake core that takes no interrupt retires the instruction at its fetch position. -/
theorem step_retires {u : State} (henv : s.env = []) (hm : s.linkMode = some m) (hs : s.sleep = false)
    (hi : s.takesInterrupt = false)
    (h : exec (s.currentInstr m) (s.advanceBy (s.currentInstr m).nibbles) = .next u) :
    step s = .next (retire s.armed u) := by
  have hawake := awaken_of_awake hs
  rw [step_of_no_event henv, stepCore_instr hm (staysAsleep_of_awake hs) (by rw [hawake]; exact hi),
    hawake, stepInstr_next h]

end stepCore

/-- The three sources of an interrupt (60_exceptions.md R342). -/
theorem enabledPending_iff (s : State) :
    s.enabledPending = true ↔
      (s.swIE && s.swP) = true ∨ (s.extIE && s.extP) = true ∨ (s.tIE && !s.wdog && s.tP) = true := by
  simp only [State.enabledPending, Bool.or_eq_true, or_assoc]

theorem enabledPending_eq_false {s : State} (hsw : (s.swIE && s.swP) = false)
    (hext : (s.extIE && s.extP) = false) (ht : (s.tIE && !s.wdog && s.tP) = false) :
    s.enabledPending = false := by
  simp only [State.enabledPending, hsw, hext, ht, Bool.or_self]

/-- Settles O6: the decoder answers the instruction of `State.currentInstr`, and the step runs it. -/
theorem stepRunsDecodedInstruction : Obligations.StepRunsDecodedInstruction := by
  intro s m i rest henv hm ha hint hdec
  have hi : i = s.awaken.currentInstr m := by
    rw [decode_peek] at hdec
    cases hdec
    rfl
  rw [step_of_no_event henv, stepCore_instr hm ha hint, hi]
  rfl

/-- Each reason to wait stops one conjunct of the acceptance condition (60_exceptions.md R347). -/
theorem takesInterrupt_eq_false {s : State}
    (h : s.nib = true ∨ s.cfg.getLsbD 4 = false ∨ s.par.hasInt = false ∨
      (s.par.xopAtomic = true ∧ s.xopp = true) ∨ (s.par.cmpAtomic = true ∧ s.cmpp = true) ∨
      s.enabledPending = false) : s.takesInterrupt = false := by
  have hsome : s.ie = false ∨ s.nib = true ∨ s.par.hasInt = false ∨ (s.par.xopAtomic && s.xopp) = true ∨
      (s.par.cmpAtomic && s.cmpp) = true ∨ s.enabledPending = false := by
    simp only [Bool.and_eq_true]
    exact or_left_comm.mp h
  obtain h | h | h | h | h | h := hsome <;> simp [State.takesInterrupt, State.intReq, h]

/-- Settles O7: in each case no interrupt is taken, and the core retires its instruction. -/
theorem interruptWaitsForBoundary : Obligations.InterruptWaitsForBoundary := by
  intro s m u henv hm hs hwait hexec
  have hint : s.takesInterrupt = false := by
    refine takesInterrupt_eq_false ?_
    exact hwait.imp_right <| .imp_right <| .imp_right <| .imp_right <| .imp_right
      fun ⟨hsw, hext, ht⟩ => enabledPending_eq_false hsw hext ht
  exact step_retires henv hm hs hint hexec

/-! ### Sleep -/

/-- In a step that retires nothing the timer stands still unless it counts cycles (60_exceptions.md R370). -/
theorem idleTick_of_not_cycle {s : State} (h : s.par.hasTimer = false ∨ s.par.timerMode = .retired) :
    idleTick s = s := by
  refine if_neg fun ⟨ht, hc⟩ => ?_
  obtain h | h := h
  · exact absurd ht (by simp [h])
  · exact absurd hc (by simp [h])

/-- Settles O12: the core stays asleep, and the timer of that step stands still. -/
theorem sleepHoldsEverything : Obligations.SleepHoldsEverything := by
  intro s henv hmode hint hs ht hsw hext htp
  obtain ⟨m, hm⟩ := Option.ne_none_iff_exists'.mp hmode
  have ha : s.staysAsleep = true := by
    simp [State.staysAsleep, hint, hs, enabledPending_eq_false hsw hext htp]
  rw [step_of_no_event henv, stepCore_asleep hm ha, idleTick_of_not_cycle ht]

/-- Settles O13: both cores are past sleep, and waking the first gives the second. -/
theorem enabledSourceWakes : Obligations.EnabledSourceWakes := by
  intro s henv hint hs hpend
  have hp : s.enabledPending = true := (enabledPending_iff s).mpr hpend
  have ha : s.staysAsleep = false := by simp [State.staysAsleep, hp]
  have hawake : s.awaken = { s with sleep := false } := by simp [State.awaken, hint]
  have hstay : State.awaken { s with sleep := false } = { s with sleep := false } := awaken_of_awake rfl
  have ha' : State.staysAsleep { s with sleep := false } = false := staysAsleep_of_awake rfl
  rw [step_of_no_event henv, step_of_no_event (by exact henv)]
  cases hm : s.linkMode with
  | none =>
    have hm' : State.linkMode { s with sleep := false } = none := hm
    simp only [stepCore, hm, hm']
  | some m => rw [stepCore_awake hm ha, stepCore_awake (s := { s with sleep := false }) hm ha', hawake, hstay]

/-! ### The environment -/

/-- Settles O15: the event is consumed and `resetCore` is power-on but for memory, events and draws. -/
theorem environmentResetKeepsMemory : Obligations.EnvironmentResetKeepsMemory := by
  intro s rest henv
  have hreset : s.envReset = true := by simp [State.envReset, henv]
  have hevent : s.takeEvent = { s with env := rest } := by simp [State.takeEvent, henv]
  rw [step, stepWith, if_pos hreset, hevent]
  rfl

/-! ### The timer and single step (60_exceptions.md sections 8, 9) -/

/-- One increment, in the form of several (`tickMany_eq`). -/
theorem tickOnce_eq (s : State) :
    tickOnce s =
      if s.wdog && s.matchNext then resetCore s
      else { s with timer := s.timer + 1, tP := s.tP || (s.par.hasInt && s.matchNext) } := by
  unfold tickOnce State.watchdogNext
  rw [Bool.and_comm]

theorem timerTick_absent {s : State} (h : s.par.hasTimer = false) : timerTick s = s := by
  simp [timerTick, h]

theorem timerTick_retired {s : State} (h : s.par.hasTimer = true) (hr : s.par.timerMode = .retired) :
    timerTick s = tickOnce s := by
  simp [timerTick, h, hr]

theorem timerTick_cycle {s : State} (h : s.par.hasTimer = true) (hc : s.par.timerMode = .cycle) :
    timerTick s = tickCycle s := by
  simp [timerTick, h, hc]

/-- In `cycle` mode a step that retires nothing makes the increments of one that does. -/
theorem idleTick_cycle {s : State} (h : s.par.hasTimer = true) (hc : s.par.timerMode = .cycle) :
    idleTick s = retire false s := by
  rw [retire_not_armed, timerTick_cycle h hc]
  exact if_pos ⟨h, hc⟩

/-- Where the tick resets nothing, whether the request is set before or after it makes no difference. -/
theorem retire_of_tick {u : State} {armed : Bool} {timer : Half} {tP : Bool} {draws : Nat}
    (h : ∀ b, timerTick { u with swP := b } =
      { u with swP := b, timer := timer, tP := tP, draws := draws }) :
    retire armed u = { u with timer := timer, tP := tP, swP := u.swP || armed, draws := draws } := by
  have hu : timerTick u = { u with timer := timer, tP := tP, draws := draws } := h u.swP
  obtain ⟨rfl, hr⟩ | ⟨rfl, -, hr⟩ | ⟨rfl, -, hr⟩ := retire_cases armed u
  · rw [hr, hu, Bool.or_false]
  · rw [hr, hu, Bool.or_true]
  · rw [hr, h true, Bool.or_true]

/-- Where the tick resets the core, the request stays only if the parameter lets it follow the reset. -/
theorem retire_of_reset {u : State} {armed : Bool} {draws : Nat}
    (h : ∀ b, timerTick { u with swP := b } = { resetCore u with draws := draws }) :
    retire armed u =
      { State.powerOn u.par with
        mem := u.mem, env := u.env, draws := draws, swP := u.par.stepAtReset == .follows && armed } := by
  have hu : timerTick u = { resetCore u with draws := draws } := h u.swP
  obtain ⟨rfl, hr⟩ | ⟨rfl, hp, hr⟩ | ⟨rfl, hp, hr⟩ := retire_cases armed u
  · rw [hr, hu, Bool.and_false]; rfl
  · rw [hr, hu, hp]; rfl
  · rw [hr, h true, hp]; rfl

/-- Settles O49: without the timer retiring is the request alone. -/
theorem singleStepRequestsTrap : Obligations.SingleStepRequestsTrap := by
  intro s u m henv hm hs hi hexec ht
  rw [step_retires henv hm hs hi hexec,
    retire_of_tick (timer := u.timer) (tP := u.tP) (draws := u.draws) fun b => timerTick_absent ht]
  rfl

/-- Settles O46: the one increment of the tick, whose match is equality after it (`matchNext_eq`). -/
theorem timerCountsRetiredInstructions : Obligations.TimerCountsRetiredInstructions := by
  intro s u m henv hm hs hi hexec ht hr hno
  have hreset : (u.wdog && u.matchNext) = false := by
    rw [matchNext_eq]
    obtain h | h | h := hno
    · rw [h, Bool.false_and]
    · rw [h, Bool.false_and, Bool.and_false]
    · rw [decide_eq_false h, Bool.and_false, Bool.and_false]
  have htick (b : Bool) : timerTick { u with swP := b } =
      { u with swP := b, timer := u.timer + 1, tP := u.tP || (u.par.hasInt && u.matchNext) } := by
    rw [timerTick_retired (by exact ht) (by exact hr), tickOnce_eq]
    exact if_neg (ne_true_of_eq_false hreset)
  rw [step_retires henv hm hs hi hexec, retire_of_tick htick, matchNext_eq, ← Bool.and_assoc]
  rfl

/-- Settles O47: the one increment of the tick matches with WDOG = 1, so it is the reset. -/
theorem watchdogMatchResets : Obligations.WatchdogMatchResets := by
  intro s u m henv hm hs hi hexec ht hr hcmp hw heq
  have hreset : (u.wdog && u.matchNext) = true := by
    rw [matchNext_eq, hcmp, hw, decide_eq_true heq]; rfl
  have htick (b : Bool) : timerTick { u with swP := b } = { resetCore u with draws := u.draws } := by
    rw [timerTick_retired (by exact ht) (by exact hr), tickOnce_eq]
    exact if_pos hreset
  rw [step_retires henv hm hs hi hexec, retire_of_reset htick]
  rfl

/-- In `cycle` mode each of the three kinds of step ends as the retirement of its state does. -/
theorem step_eq_retire_of_cycle {s u : State} {m : LinkMode} {armed : Bool} (henv : s.env = [])
    (hm : s.linkMode = some m) (ht : u.par.hasTimer = true) (hc : u.par.timerMode = .cycle)
    (hkind : (s.staysAsleep = true ∧ u = s ∧ armed = false) ∨
      (s.staysAsleep = false ∧ s.awaken.takesInterrupt = true ∧ u = trapEntry s.awaken ∧
        armed = false) ∨
      (s.staysAsleep = false ∧ s.awaken.takesInterrupt = false ∧
        exec (s.awaken.currentInstr m)
          (State.advanceBy (s.awaken.currentInstr m).nibbles s.awaken) = .next u ∧
        armed = s.awaken.armed)) :
    step s = .next (retire armed u) := by
  rw [step_of_no_event henv]
  obtain ⟨ha, rfl, rfl⟩ | ⟨ha, hi, rfl, rfl⟩ | ⟨ha, hi, hexec, rfl⟩ := hkind
  · rw [stepCore_asleep hm ha, idleTick_cycle ht hc]
  · rw [stepCore_interrupt hm ha hi, idleTick_cycle ht hc]
  · rw [stepCore_instr hm ha hi, stepInstr_next hexec]

/-- Single step is sampled from bits that waking leaves alone. -/
theorem awaken_armed (s : State) :
    s.awaken.armed = (s.par.hasDbg && s.dbgStep && s.cfg.getLsbD 4 && !s.inIsr) := by
  simp only [State.armed, State.ie, awaken_par, awaken_dbgStep, awaken_cfg, awaken_inIsr]

/-- Settles O48: the step retires `u`, and its increments are those of `tickMany_eq`. -/
theorem cycleTimerAdvances : Obligations.CycleTimerAdvances := by
  intro s u m armed matched k henv hm hkind ht hc hk hmatch
  have htick (b : Bool) : timerTick { u with swP := b } =
      if u.wdog && matched then { resetCore u with draws := u.draws + 1 }
      else { u with
              swP := b, timer := u.timer + BitVec.ofNat 16 k, tP := u.tP || (u.par.hasInt && matched),
              draws := u.draws + 1 } := by
    rw [timerTick_cycle (by exact ht) (by exact hc), tickCycle]
    refine (tickMany_eq _ _ matched ?_).trans ?_
    · rw [hk] at hmatch; exact hmatch
    · rw [hk]; rfl
  rw [step_eq_retire_of_cycle henv hm ht hc (by rw [awaken_armed]; exact hkind)]
  refine ⟨fun hno => ?_, fun hreset => ?_⟩
  · rw [retire_of_tick fun b => (htick b).trans (if_neg (by simp [hno]))]
  · rw [retire_of_reset fun b => (htick b).trans (if_pos hreset)]

end Sys2Proof.Machine
end

section
/-! What every step keeps (10_state.md sections 4 to 9), where a step stops, and that the schedule of the
environment only waits its turn. -/

namespace Sys2Proof.Machine

/-! ### Where a meaning stops (10_state.md R33, 93_implementation_defined.md U1, U3) -/

theorem opReserved_of_mode {s : State} (h : s.linkMode ≠ none) (keep : Bool) :
    opReserved keep s =
      if s.par.rsvBehaviour = .refuse ∧ keep = false then .refused .reservedOpcode
      else .next (complete s) := by
  obtain ⟨m, hm⟩ := Option.ne_none_iff_exists'.mp h
  unfold opReserved; rw [hm]

/-- In a defined link mode only a refused reserved opcode has no next state. -/
theorem exec_continues {s : State} (hmode : s.linkMode ≠ none) (hrsv : s.par.rsvBehaviour = .noOp)
    (i : Instr) : ∃ t, exec i s = .next t := by
  cases i with
  | rsv0100 | rsv1100 | rsv1000 | rsv0000 =>
    exact ⟨_, (opReserved_of_mode hmode _).trans (if_neg (by simp [hrsv]))⟩
  | _ =>
    obtain ⟨m, hm⟩ := Option.ne_none_iff_exists'.mp hmode
    exact ⟨_, inMode_of_mode hm _⟩

theorem exec_refused {s : State} (h : s.linkMode = none) (i : Instr) :
    exec i s = .refused .reservedLinkMode := by
  have hin (f : LinkMode → State) : inMode s f = .refused .reservedLinkMode := by
    unfold inMode; rw [h]
  have hrsv (keep : Bool) : opReserved keep s = .refused .reservedLinkMode := by
    unfold opReserved; rw [h]
  cases i with
  | rsv0100 | rsv1100 | rsv1000 | rsv0000 => exact hrsv _
  | _ => exact hin _

/-- CFG.W is made of the two low bits of CFG. -/
theorem extractLsb'_cfg (b : Byte) :
    b.extractLsb' 0 2 = (BitVec.ofBool (b.getLsbD 1) ++ BitVec.ofBool (b.getLsbD 0) : BitVec 2) := by
  revert b; decide

/-- The link mode by the two bits of CFG.W (10_state.md R27, R33). -/
theorem linkMode_eq (s : State) :
    s.linkMode =
      match s.cfg.getLsbD 1, s.cfg.getLsbD 0 with
      | false, false => some .ul
      | false, true => some .lk8
      | true, false => some .lk16
      | true, true => if s.par.hasMad then some .spe else none := by
  rw [State.linkMode, extractLsb'_cfg]
  cases s.cfg.getLsbD 1 <;> cases s.cfg.getLsbD 0 <;> rfl

/-- Settles O56: no link mode is in force there, and neither `exec` nor `stepCore` goes on without one. -/
theorem reservedLinkModeStops : Obligations.ReservedLinkModeStops := by
  intro s hmad h0 h1
  have hnone : s.linkMode = none := by rw [linkMode_eq, h0, h1, hmad]; rfl
  refine ⟨exec_refused hnone, fun henv => ?_⟩
  rw [step_of_no_event henv, stepCore, hnone]

theorem advanceBy_linkMode (n : Nat) (s : State) : (s.advanceBy n).linkMode = s.linkMode := by
  rw [advanceBy_eq]; rfl

theorem advanceBy_par (n : Nat) (s : State) : (s.advanceBy n).par = s.par := by
  rw [advanceBy_eq]

/-- Settles O55: the environment, sleep and an interrupt always give a next state, and so does every
instruction. -/
theorem stepAlwaysContinues : Obligations.StepAlwaysContinues := by
  intro s hmode hrsv
  obtain ⟨m, hm⟩ := Option.ne_none_iff_exists'.mp (show s.takeEvent.linkMode ≠ none by simpa using hmode)
  unfold step stepWith
  cases s.envReset with
  | true => exact ⟨_, rfl⟩
  | false =>
    cases ha : s.takeEvent.staysAsleep with
    | true => exact ⟨_, stepCore_asleep hm ha⟩
    | false =>
      cases hi : s.takeEvent.awaken.takesInterrupt with
      | true => exact ⟨_, stepCore_interrupt hm ha hi⟩
      | false =>
        obtain ⟨u, hu⟩ := exec_continues
          (s := s.takeEvent.awaken.advanceBy (s.takeEvent.awaken.currentInstr m).nibbles)
          (by rw [advanceBy_linkMode]; simpa using hmode) (by rw [advanceBy_par]; simpa using hrsv)
          (s.takeEvent.awaken.currentInstr m)
        exact ⟨_, (stepCore_instr hm ha hi).trans (stepInstr_next hu)⟩

/-! ### The configuration -/

theorem timerTick_par (s : State) : (timerTick s).par = s.par :=
  timerTick_keeps (P := fun u => u.par = s.par) (fun u _ h => (tickOnce_par u).trans h)
    (fun _ _ h => h) s rfl

theorem idleTick_par (s : State) : (idleTick s).par = s.par :=
  idleTick_keeps (P := fun u => u.par = s.par) (fun u _ h => (tickOnce_par u).trans h)
    (fun _ _ h => h) s rfl

theorem retire_par (armed : Bool) (s : State) : (retire armed s).par = s.par := by
  obtain ⟨-, h⟩ | ⟨-, -, h⟩ | ⟨-, -, h⟩ := retire_cases armed s <;> rw [h] <;> exact timerTick_par _

/-- Settles O57, over the four kinds of step. -/
theorem stepKeepsConfiguration : Obligations.StepKeepsConfiguration := by
  intro s t h
  obtain ⟨-, rfl⟩ | ⟨-, m, -, ⟨-, rfl⟩ | ⟨-, -, rfl⟩ | ⟨-, -, u, hu, rfl⟩⟩ := stepWith_next h
  · exact takeEvent_par s
  · rw [idleTick_par, takeEvent_par]
  · rw [idleTick_par, trapEntry_par, awaken_par, takeEvent_par]
  · rw [retire_par, exec_par hu, advanceBy_par, awaken_par, takeEvent_par]

/-! ### Reset -/

/-- Settles O51: `State.powerOn` field by field; the default image is zero and its configuration has no
profile that would change that. -/
theorem resetImageIsZero : Obligations.ResetImageIsZero := by
  refine ⟨?_, ?_⟩
  · rintro r rfl
    exact ⟨rfl, rfl, rfl, rfl, rfl, rfl, rfl, rfl, rfl, rfl, rfl, rfl, rfl, rfl, rfl, rfl, rfl, rfl, rfl,
      rfl, rfl, rfl⟩
  · rintro p r im rfl rfl
    exact ⟨rfl, rfl, rfl, rfl, rfl, rfl, rfl, rfl, rfl, rfl, rfl, rfl, rfl, rfl, rfl, rfl, rfl, rfl, rfl,
      rfl, rfl, rfl, rfl, rfl, rfl, rfl, rfl, rfl, rfl, rfl, rfl, rfl, rfl⟩

/-! ### The invariant -/

/-- The part of the invariant about the registers of absent profiles. -/
def State.AbsentOk (s : State) : Prop :=
  s.IntOk ∧ s.CompareRegOk ∧ s.TimerOk ∧ s.GprOk ∧ s.DebugOk

theorem absentOk_resetCore (s : State) : (resetCore s).AbsentOk := by
  refine ⟨fun h => ?_, fun h => ?_, fun h => ?_, fun h => ?_, fun _ => rfl⟩ <;>
    rw [resetCore_par] at h <;> simp [Config.resetValues, h]

/-- A core right after reset meets the invariant where its memory and its parameters do. -/
theorem inv_resetCore {s : State} (hmem : s.MemOk) (hpar : s.ParOk) : (resetCore s).Inv :=
  ⟨hmem, ⟨nofun, nofun⟩, nofun, hpar, absentOk_resetCore s⟩

/-- Settles O58: power-on is a reset that also fills the memory. -/
theorem invariantAtReset : Obligations.InvariantAtReset := by
  have hpower {p : Config} (hp : p.valid = true) (hmem : Memory.wf p.memInit = true) :
      (State.powerOn p).Inv :=
    inv_resetCore (s := State.powerOn p) hmem hp
  exact ⟨hpower rfl rfl, fun p => hpower⟩

theorem inv_takeEvent {s : State} (h : s.Inv) : s.takeEvent.Inv := by
  unfold State.takeEvent
  split
  · exact h
  · obtain ⟨hmem, hcmp, hsleep, hpar, hint, hrest⟩ := h
    refine ⟨hmem, hcmp, hsleep, hpar, fun (hno : s.par.hasInt = false) => ?_, hrest⟩
    simpa [hno] using hint hno
  · exact h
  · exact h

/-- The core that goes on from a boundary is awake: without the Interrupt Profile it never slept. -/
theorem awaken_sleep_of_inv {s : State} (h : s.Inv) : s.awaken.sleep = false := by
  obtain ⟨-, -, -, -, hint, -⟩ := h
  rw [awaken_sleep]
  cases hi : s.par.hasInt with
  | true => rfl
  | false =>
    obtain ⟨-, -, hsleep, -⟩ := hint hi
    exact hsleep

theorem inv_awaken {s : State} (h : s.Inv) : s.awaken.Inv := by
  unfold State.awaken
  split
  · rename_i hi
    obtain ⟨hmem, hcmp, -, hpar, -, hrest⟩ := h
    exact ⟨hmem, hcmp, nofun, hpar, fun hno => absurd hi (ne_true_of_eq_false hno), hrest⟩
  · exact h

theorem inv_advanceBy {s : State} (n : Nat) (h : s.Inv) : (s.advanceBy n).Inv := by
  rw [advanceBy_eq]; exact h

theorem inv_trapEntry {s : State} (hi : s.par.hasInt = true) (h : s.Inv) : (trapEntry s).Inv := by
  obtain ⟨hmem, -, -, hpar, -, hreg, htimer, hgpr, -⟩ := h
  exact ⟨writeBytes_wf _ _ _ hmem, ⟨nofun, nofun⟩, fun _ => ⟨rfl, rfl⟩, hpar,
    fun hno => absurd hi (ne_true_of_eq_false hno), hreg, htimer, hgpr, fun _ => rfl⟩

/-! The timer. -/

theorem inv_tickOnce {s : State} (ht : s.par.hasTimer = true) (h : s.Inv) : (tickOnce s).Inv := by
  obtain ⟨hmem, hcmp, hsleep, hpar, hint, hreg, htimer, hgpr, hdbg⟩ := h
  rw [tickOnce_eq]
  split
  · exact inv_resetCore hmem hpar
  · refine ⟨hmem, hcmp, hsleep, hpar, fun (hno : s.par.hasInt = false) => ?_,
      fun (hno : s.par.hasTimerCmp = false) => ?_, fun hno => absurd ht (ne_true_of_eq_false hno), hgpr,
      hdbg⟩
    · simpa [hno] using hint hno
    · simpa [hno, State.matchNext] using hreg hno

theorem inv_timerTick {s : State} (h : s.Inv) : (timerTick s).Inv :=
  timerTick_keeps (fun _ => inv_tickOnce) (fun _ _ hu => hu) s h

theorem inv_idleTick {s : State} (h : s.Inv) : (idleTick s).Inv :=
  idleTick_keeps (fun _ => inv_tickOnce) (fun _ _ hu => hu) s h

/-- SW_P may be set on a core with the Interrupt Profile. -/
theorem inv_setSwP {s : State} (hi : s.par.hasInt = true) (h : s.Inv) :
    ({ s with swP := true } : State).Inv := by
  obtain ⟨hmem, hcmp, hsleep, hpar, -, hrest⟩ := h
  exact ⟨hmem, hcmp, hsleep, hpar, fun hno => absurd hi (ne_true_of_eq_false hno), hrest⟩

theorem inv_retire {armed : Bool} {s : State} (hi : armed = true → s.par.hasInt = true) (h : s.Inv) :
    (retire armed s).Inv := by
  obtain ⟨-, hr⟩ | ⟨ha, -, hr⟩ | ⟨ha, -, hr⟩ := retire_cases armed s <;> rw [hr]
  · exact inv_timerTick h
  · exact inv_setSwP (by rw [timerTick_par]; exact hi ha) (inv_timerTick h)
  · exact inv_timerTick (inv_setSwP (hi ha) h)

/-- Single step needs the Debug Profile, and that the Interrupt Profile (00_scope.md R9). -/
theorem hasInt_of_armed {s : State} (hpar : s.ParOk) (h : s.armed = true) : s.par.hasInt = true := by
  have hdbg : s.par.hasDbg = true := by
    simp only [State.armed, Bool.and_eq_true] at h
    obtain ⟨⟨⟨hdbg, -⟩, -⟩, -⟩ := h
    exact hdbg
  cases hi : s.par.hasInt with
  | true => rfl
  | false => simp [State.ParOk, Config.valid, hdbg, hi] at hpar

/-! Instructions. -/

/-- Only a store writes memory, and it keeps the canonical form. -/
theorem exec_memOk {i : Instr} {s t : State} (hmem : s.MemOk) (h : exec i s = .next t) : t.MemOk := by
  obtain hsame | ⟨post, d, ar, rfl⟩ := exec_mem_cases h
  · rw [State.MemOk, hsame]; exact hmem
  · obtain ⟨m, -, rfl⟩ := inMode_next h
    obtain ⟨hop, -⟩ | ⟨-, hx⟩ := opXmem_cases m .store post d ar s
    · cases hop
    · rw [State.MemOk, complete_mem, hx, setAddrReg_mem]
      exact storeMem_wf m _ s hmem

/-- A CSR write leaves the registers of absent profiles as they are (10_state.md section 6). -/
theorem absentOk_csrWrite {s : State} (h : s.AbsentOk) (idx : Nibble) (v : Half) :
    (csrWrite s idx v).AbsentOk := by
  obtain ⟨hint, hreg, htimer, hgpr, hdbg⟩ := h
  obtain rfl | rfl | rfl | rfl | rfl | rfl | rfl | rfl | h := csrIndex_cases idx
  · exact ⟨hint, hreg, htimer, hgpr, hdbg⟩
  · rw [csrWrite_timer]
    exact ⟨hint, hreg, fun (hno : s.par.hasTimer = false) => by simpa [hno] using htimer hno, hgpr, hdbg⟩
  · rw [csrWrite_timerCmp]
    refine ⟨hint, fun (hno : s.par.hasTimerCmp = false) => ?_, htimer, hgpr, hdbg⟩
    simpa [hno] using hreg hno
  · rw [csrWrite_intctrl]
    split
    · rename_i hi
      refine ⟨fun hno => absurd hi (ne_true_of_eq_false hno),
        fun (hno : s.par.hasTimerCmp = false) => ?_, htimer, hgpr, fun (hno : s.par.hasDbg = false) => ?_⟩
      · obtain ⟨-, -, htP, hcmp⟩ := hreg hno
        simp [writeIntctrl, hno, htP, hcmp]
      · simpa [writeIntctrl, hno] using hdbg hno
    · exact ⟨hint, hreg, htimer, hgpr, hdbg⟩
  · rw [csrWrite_ia]
    refine ⟨fun (hno : s.par.hasInt = false) => ?_, hreg, htimer, hgpr, hdbg⟩
    simpa [hno] using hint hno
  · rw [csrWrite_gpr1]
    refine ⟨hint, hreg, htimer, fun (hno : s.par.hasGpr = false) => ?_, hdbg⟩
    simpa [hno] using hgpr hno
  · rw [csrWrite_gpr2]
    refine ⟨hint, hreg, htimer, fun (hno : s.par.hasGpr = false) => ?_, hdbg⟩
    simpa [hno] using hgpr hno
  · rw [csrWrite_gpr3]
    refine ⟨hint, hreg, htimer, fun (hno : s.par.hasGpr = false) => ?_, hdbg⟩
    simpa [hno] using hgpr hno
  · rw [csrWrite_ignored s v h]
    exact ⟨hint, hreg, htimer, hgpr, hdbg⟩

/-- The rows of the Interrupt Profile apply only where it is present (30_encoding.md R121). -/
theorem hasInt_of_wellFormed {c : DecodeCtx} {i : Instr} (hi : i = .reti ∨ i = .swi ∨ i = .wfi)
    (h : i.wellFormed c = true) : c.par.hasInt = true := by
  obtain rfl | rfl | rfl := hi <;>
    (simp only [Instr.wellFormed, Bool.and_eq_true] at h; exact h.2)

/-- Beside a CSR write, only the instructions of the Interrupt Profile write a register of a profile. -/
theorem exec_absentOk {c : DecodeCtx} {i : Instr} {s t : State} (hwf : i.wellFormed c = true)
    (hc : c.par = s.par) (habs : s.AbsentOk) (h : exec i s = .next t) : t.AbsentOk := by
  by_cases hcsr : ∃ idx, i = .csrst idx
  · obtain ⟨idx, rfl⟩ := hcsr
    obtain ⟨m, -, rfl⟩ := inMode_next h
    exact absentOk_csrWrite habs idx s.acc
  · have hno (idx) : i ≠ .csrst idx := fun hi => hcsr ⟨idx, hi⟩
    obtain ⟨hint, hreg, htimer, hgpr, hdbg⟩ := habs
    obtain ⟨eswIE, eextIE, etIE, ewdog, edbg, eextP, etP⟩ := (exec_intctrl_cases h).resolve_right (hno 3)
    have epar := exec_par h
    obtain ⟨etimer, ecmp, egpr1, egpr2, egpr3⟩ := exec_csr_cases h
    refine ⟨fun hi => ?_, ?_, ?_, ?_, ?_⟩
    · rw [epar] at hi
      have hnot : ¬(i = .reti ∨ i = .swi ∨ i = .wfi) := fun hint' => by
        have := hasInt_of_wellFormed hint' hwf
        simp [hc, hi] at this
      simp only [not_or] at hnot
      obtain ⟨hreti, hswi, hwfi⟩ := hnot
      have eia := (exec_ia_cases h).resolve_right (not_or.mpr ⟨hno 4, hreti⟩)
      have eiar := (exec_iar_cases h).resolve_right hreti
      have esleep := (exec_sleep_cases h).resolve_right hwfi
      have einIsr := (exec_inIsr_cases h).resolve_right hreti
      have eswP := (exec_swP_cases h).resolve_right (not_or.mpr ⟨hswi, hno 3⟩)
      rw [eia, eiar, esleep, eswIE, eextIE, etIE, ewdog, einIsr, eextP, etP, eswP, edbg]
      exact hint hi
    · rw [State.CompareRegOk, epar, etIE, ewdog, etP, ecmp.resolve_right (hno 2)]
      exact hreg
    · rw [State.TimerOk, epar, etimer.resolve_right (hno 1)]
      exact htimer
    · rw [State.GprOk, epar, egpr1.resolve_right (hno 5), egpr2.resolve_right (hno 6),
        egpr3.resolve_right (hno 7)]
      exact hgpr
    · rw [State.DebugOk, epar, edbg]
      exact hdbg

/-- An instruction of the decoder keeps the invariant of an awake core. -/
theorem inv_exec {c : DecodeCtx} {i : Instr} {s t : State} (hwf : i.wellFormed c = true)
    (hc : c.par = s.par) (hs : s.sleep = false) (hinv : s.Inv) (h : exec i s = .next t) : t.Inv := by
  obtain ⟨hmem, -, -, hpar, habs⟩ := hinv
  obtain ⟨hxopp, hcmpp, hz⟩ := exec_sequencing h
  have hxopp' (hi : i ≠ .xop) : t.xopp = false := by simpa using mt hxopp.mp hi
  have hcmpp' (hi : i ≠ .cmp) : t.cmpp = false := by simpa using mt hcmpp.mp hi
  refine ⟨exec_memOk hmem h, ⟨fun hset => hcmpp.mpr (hz hset), fun hset => ?_⟩, fun hset => ?_, ?_,
    exec_absentOk hwf hc habs h⟩
  · exact hxopp' (by rw [hcmpp.mp hset]; nofun)
  · obtain hsame | rfl := exec_sleep_cases h
    · rw [hsame, hs] at hset; cases hset
    · exact ⟨hxopp' nofun, hcmpp' nofun⟩
  · rw [State.ParOk, exec_par h]; exact hpar

/-- The instruction a step runs is a row of its decode context. -/
theorem wellFormed_currentInstr (s : State) (m : LinkMode) :
    (s.currentInstr m).wellFormed (s.decodeCtx m) = true :=
  (readsAs_decodeNibbles _ _ _ _).1

/-- Settles O59, over the four kinds of step: each is made of operations that keep the invariant. -/
theorem stepKeepsInvariant : Obligations.StepKeepsInvariant := by
  intro s t hinv h
  have hevent := inv_takeEvent hinv
  have hawake := inv_awaken hevent
  obtain ⟨-, rfl⟩ | ⟨-, m, -, ⟨-, rfl⟩ | ⟨-, hi, rfl⟩ | ⟨-, -, u, hu, rfl⟩⟩ := stepWith_next h
  · obtain ⟨hmem, -, -, hpar, -⟩ := hevent
    exact inv_resetCore hmem hpar
  · exact inv_idleTick hevent
  · have hint : s.takeEvent.awaken.par.hasInt = true := by
      simp only [State.takesInterrupt, Bool.and_eq_true] at hi
      obtain ⟨⟨⟨⟨hint, -⟩, -⟩, -⟩, -⟩ := hi
      exact hint
    exact inv_idleTick (inv_trapEntry hint hawake)
  · obtain ⟨-, -, -, hpar, -⟩ := id hawake
    have hfetched := inv_advanceBy (s.takeEvent.awaken.currentInstr m).nibbles hawake
    have hsleep := awaken_sleep_of_inv hevent
    have hu' : u.Inv := by
      refine inv_exec (wellFormed_currentInstr s.takeEvent.awaken m) ?_ ?_ hfetched hu
      · rw [advanceBy_par]; rfl
      · rw [advanceBy_eq]; exact hsleep
    refine inv_retire (fun ha => ?_) hu'
    rw [exec_par hu, advanceBy_par]
    exact hasInt_of_armed hpar ha

end Sys2Proof.Machine
end

section
/-! The schedule of the environment (10_state.md section 7): no operation of the step looks at the events
still to come. -/

namespace Sys2Proof.Machine

/-- A state with another schedule of events. -/
def withEnv (e : List EnvEvent) (s : State) : State := { s with env := e }

/-- An outcome with its next state changed. -/
def mapNext (f : State → State) (o : Host.Outcome State Fault Refusal) :
    Host.Outcome State Fault Refusal :=
  match o with
  | .next t => .next (f t)
  | .fault r => .fault r
  | .refused r => .refused r

section withEnv
variable (e : List EnvEvent) (s : State)

theorem withEnv_linkMode : (withEnv e s).linkMode = s.linkMode := rfl

theorem withEnv_opBranch {k : Nat} (cond : Bool) (imm : BitVec k) :
    opBranch cond imm (withEnv e s) = withEnv e (opBranch cond imm s) := by
  cases cond <;> rfl

theorem withEnv_opXmem (m : LinkMode) (op : MemOp) (post : Bool) (dir : StrideDir) (ar : AddrReg) :
    opXmem m op post dir ar (withEnv e s) = withEnv e (opXmem m op post dir ar s) := by
  cases op <;> cases ar <;> rfl

theorem withEnv_csrWrite (idx : Nibble) (v : Half) :
    csrWrite (withEnv e s) idx v = withEnv e (csrWrite s idx v) := by
  obtain rfl | rfl | rfl | rfl | rfl | rfl | rfl | rfl | h := csrIndex_cases idx
  · rfl
  · rw [csrWrite_timer, csrWrite_timer]; rfl
  · rw [csrWrite_timerCmp, csrWrite_timerCmp]; rfl
  · rw [csrWrite_intctrl, csrWrite_intctrl, apply_ite (withEnv e)]; rfl
  · rw [csrWrite_ia, csrWrite_ia]; rfl
  · rw [csrWrite_gpr1, csrWrite_gpr1]; rfl
  · rw [csrWrite_gpr2, csrWrite_gpr2]; rfl
  · rw [csrWrite_gpr3, csrWrite_gpr3]; rfl
  · rw [csrWrite_ignored _ v h, csrWrite_ignored _ v h]

theorem withEnv_inMode {f g : LinkMode → State} (h : ∀ m, f m = withEnv e (g m)) :
    inMode (withEnv e s) f = mapNext (withEnv e) (inMode s g) := by
  unfold inMode
  rw [withEnv_linkMode]
  cases s.linkMode with
  | none => rfl
  | some m => exact congrArg _ (h m)

theorem withEnv_opReserved (keep : Bool) :
    opReserved keep (withEnv e s) = mapNext (withEnv e) (opReserved keep s) := by
  unfold opReserved
  rw [withEnv_linkMode]
  cases s.linkMode with
  | none => rfl
  | some m => simp only [apply_ite (mapNext (withEnv e))]; rfl

end withEnv

theorem withEnv_applyNvRule {e : List EnvEvent} {u w : State} (hw : w = withEnv e u) :
    w.applyNvRule = withEnv e u.applyNvRule := by
  rw [hw]
  cases h : u.par.nvRule <;> simp [State.applyNvRule, withEnv, h]

/-- An ALU meaning, which ends with NV_RULE and the completion. -/
theorem withEnv_alu {e : List EnvEvent} {u w : State} (hw : w = withEnv e u) :
    complete w.applyNvRule = withEnv e (complete u.applyNvRule) := by
  rw [withEnv_applyNvRule hw]; rfl

/-- No meaning reads the schedule or writes it. -/
theorem withEnv_exec (e : List EnvEvent) (i : Instr) (s : State) :
    exec i (withEnv e s) = mapNext (withEnv e) (exec i s) := by
  cases i with
  | rsv0100 | rsv1100 | rsv1000 | rsv0000 => exact withEnv_opReserved e s _
  | add | addi4 | addi8 | sub | subi4 | subi8 | inc | dec | and_ | andi4 | andi8 | or_ | ori4 | ori8 |
      xor_ | xori4 | xori8 | inv | shl | shr | btst | btsti4 | btsti8 | tst | tsti4 | tsti8 | mad |
      max_ | min_ =>
    exact withEnv_inMode e s fun m => withEnv_alu rfl
  | cmp => exact withEnv_inMode e s fun m => withEnv_applyNvRule rfl
  | beqz4 | beqz8 | bc4 | bc8 =>
    exact withEnv_inMode e s fun m => congrArg complete (withEnv_opBranch e s _ _)
  | xmem op post dir ar =>
    exact withEnv_inMode e s fun m => congrArg complete (withEnv_opXmem e s m op post dir ar)
  | csrst idx =>
    exact withEnv_inMode e s fun m => congrArg complete (withEnv_csrWrite e s idx s.acc)
  | _ => exact withEnv_inMode e s fun m => rfl

section step
variable (e : List EnvEvent) (s : State)

theorem withEnv_advance : (withEnv e s).advance = withEnv e s.advance := by
  unfold State.advance
  cases h : s.nib <;> simp [withEnv, h]

theorem withEnv_advanceBy (n : Nat) : (withEnv e s).advanceBy n = withEnv e (s.advanceBy n) := by
  induction n generalizing s with
  | zero => rfl
  | succ n ih => rw [State.advanceBy, withEnv_advance, ih]; rfl

theorem withEnv_currentInstr (m : LinkMode) : (withEnv e s).currentInstr m = s.currentInstr m := by
  unfold State.currentInstr
  rw [withEnv_advance, withEnv_advance]
  rfl

theorem withEnv_takesInterrupt : (withEnv e s).takesInterrupt = s.takesInterrupt := rfl

theorem withEnv_trapEntry : trapEntry (withEnv e s) = withEnv e (trapEntry s) := rfl

theorem withEnv_armed : (withEnv e s).armed = s.armed := rfl

theorem withEnv_awaken : (withEnv e s).awaken = withEnv e s.awaken := by
  unfold State.awaken
  cases h : s.par.hasInt <;> simp [withEnv, h]

theorem withEnv_tickOnce : tickOnce (withEnv e s) = withEnv e (tickOnce s) := by
  rw [tickOnce_eq, tickOnce_eq, apply_ite (withEnv e)]
  rfl

theorem withEnv_tickMany (k : Nat) : tickMany k (withEnv e s) = withEnv e (tickMany k s) := by
  induction k generalizing s with
  | zero => rfl
  | succ k ih =>
    rw [tickMany, tickMany, apply_ite (withEnv e), withEnv_tickOnce, ih]
    rfl

theorem withEnv_timerTick : timerTick (withEnv e s) = withEnv e (timerTick s) := by
  cases ht : s.par.hasTimer with
  | false => rw [timerTick_absent ht, timerTick_absent (by exact ht)]
  | true =>
    cases hmode : s.par.timerMode with
    | retired =>
      rw [timerTick_retired ht hmode, timerTick_retired (by exact ht) (by exact hmode), withEnv_tickOnce]
    | cycle =>
      rw [timerTick_cycle ht hmode, timerTick_cycle (by exact ht) (by exact hmode)]
      exact withEnv_tickMany e { s with draws := s.draws + 1 } _

theorem withEnv_idleTick : idleTick (withEnv e s) = withEnv e (idleTick s) := by
  by_cases hc : s.par.hasTimer = true ∧ s.par.timerMode = .cycle
  · rw [idleTick_cycle hc.1 hc.2, idleTick_cycle (by exact hc.1) (by exact hc.2), retire_not_armed,
      retire_not_armed, withEnv_timerTick]
  · exact (if_neg hc).trans (congrArg _ (if_neg hc).symm)

theorem withEnv_retire (armed : Bool) : retire armed (withEnv e s) = withEnv e (retire armed s) := by
  obtain ⟨rfl, h⟩ | ⟨rfl, hp, h⟩ | ⟨rfl, hp, h⟩ := retire_cases armed s <;> rw [h]
  · rw [retire_not_armed, withEnv_timerTick]
  · rw [retire_follows (by exact hp), withEnv_timerTick]; rfl
  · rw [retire_dropped (by exact hp)]
    exact withEnv_timerTick e { s with swP := true }

/-- Neither does the step read the schedule once its event has come. -/
theorem withEnv_stepCore : stepCore exec (withEnv e s) = mapNext (withEnv e) (stepCore exec s) := by
  cases hm : s.linkMode with
  | none => simp only [stepCore, withEnv_linkMode, hm, mapNext]
  | some m =>
    have hm' : (withEnv e s).linkMode = some m := hm
    cases ha : s.staysAsleep with
    | true => rw [stepCore_asleep hm ha, stepCore_asleep hm' (by exact ha), withEnv_idleTick]; rfl
    | false =>
      cases hi : s.awaken.takesInterrupt with
      | true =>
        rw [stepCore_interrupt hm ha hi,
          stepCore_interrupt hm' (by exact ha) (by rw [withEnv_awaken, withEnv_takesInterrupt, hi]), withEnv_awaken,
          withEnv_trapEntry, withEnv_idleTick]
        rfl
      | false =>
        rw [stepCore_instr hm ha hi,
          stepCore_instr hm' (by exact ha) (by rw [withEnv_awaken, withEnv_takesInterrupt, hi]), withEnv_awaken]
        unfold stepInstr
        rw [withEnv_currentInstr, withEnv_armed, withEnv_advanceBy, withEnv_exec]
        cases exec (s.awaken.currentInstr m) (s.awaken.advanceBy (s.awaken.currentInstr m).nibbles) with
        | next t => exact congrArg _ (withEnv_retire e t _)
        | fault r => rfl
        | refused r => rfl

end step

/-- Settles O14: a quiet event or the external line has come when `stepCore` begins, and `stepCore` does
not look at the rest of the schedule. -/
theorem externalLineSetsPending : Obligations.ExternalLineSetsPending := by
  intro s rest
  refine ⟨rfl, ?_⟩
  have hquiet : step { s with env := .quiet :: rest } = stepCore exec (withEnv rest { s with env := [] }) :=
    rfl
  rw [hquiet, step_of_no_event rfl, withEnv_stepCore]
  rfl

end Sys2Proof.Machine
end

section
/-! Taking an interrupt and returning from it (60_exceptions.md sections 5 and 6, 47_interrupt_profile.md). -/

namespace Sys2Proof.Machine

/-! ### The frame (60_exceptions.md R350, R351) -/

theorem lowByte_eq_setWidth (x : Half) : lowByte x = x.setWidth 8 :=
  (BitVec.setWidth_eq_extractLsb' (by omega)).symm

theorem flagsByte_eq_ofNat (s : State) :
    s.flagsByte = BitVec.ofNat 8 (s.c.toNat + 2 * s.z.toNat + 4 * s.n.toNat + 8 * s.v.toNat) := by
  rw [← flagsByte_toNat, BitVec.ofNat_toNat, BitVec.setWidth_eq]

/-- A frame byte reads back from the page the frame was written to. -/
theorem read_frame_offset {s : State} (h : s.mem.wf = true) {k : Nat} (hk : k < 16) :
    (trapEntry s).mem.read (pageBase s.ia + BitVec.ofNat 16 k) = (frameBytes s).getD k 0 := by
  have hsub : (pageBase s.ia + BitVec.ofNat 16 k - pageBase s.ia).toNat = k := by
    rw [BitVec.add_comm, BitVec.add_sub_cancel, BitVec.toNat_ofNat, Nat.mod_eq_of_lt (by omega)]
  rw [trapEntry_mem, read_frame s h, hsub, List.getD_eq_getElem?_getD,
    List.getElem?_eq_getElem (by exact hk)]
  rfl

/-- No address outside the sixteen frame bytes of the page is written. -/
theorem read_frame_outside {s : State} (h : s.mem.wf = true) {a : Half}
    (ha : a.toNat / 256 ≠ s.ia.toNat ∨ 16 ≤ a.toNat % 256) :
    (trapEntry s).mem.read a = s.mem.read a := by
  have hout : 16 ≤ (a - pageBase s.ia).toNat := by
    rw [BitVec.toNat_sub, pageBase_toNat]
    have := a.isLt
    have := s.ia.isLt
    omega
  rw [trapEntry_mem, read_frame s h, List.getElem?_eq_none (by exact hout)]
  rfl

/-- Clearing IE keeps every other bit. -/
theorem getLsbD_clearIE (cfg : Byte) (j : Nat) :
    (clearIE cfg).getLsbD j = (cfg.getLsbD j && j != 4) := by
  by_cases hj : j < 8
  · rw [clearIE, BitVec.getLsbD_and]
    interval_cases j <;> simp
  · rw [BitVec.getLsbD_of_ge _ _ (by omega), BitVec.getLsbD_of_ge _ _ (by omega)]; rfl

/-! ### Entry -/

theorem awaken_of_hasInt {s : State} (h : s.par.hasInt = true) : s.awaken = { s with sleep := false } :=
  if_pos h

/-- At an aligned boundary with IE = 1, an enabled source pending and no atomic XOP or CMP, the interrupt is
taken, whether the core was asleep or not (60_exceptions.md R342, R347). -/
theorem step_takes_interrupt {s : State} (henv : s.env = []) (hmode : s.linkMode ≠ none)
    (hint : s.par.hasInt = true) (hie : s.cfg.getLsbD 4 = true)
    (hpend : (s.swIE && s.swP) = true ∨ (s.extIE && s.extP) = true ∨ (s.tIE && !s.wdog && s.tP) = true)
    (hnib : s.nib = false) (hxop : (s.par.xopAtomic && s.xopp) = false)
    (hcmp : (s.par.cmpAtomic && s.cmpp) = false) :
    step s = .next (idleTick (trapEntry s.awaken)) := by
  obtain ⟨m, hm⟩ := Option.ne_none_iff_exists'.mp hmode
  have hp := (enabledPending_iff s).mpr hpend
  have ha : s.staysAsleep = false := by rw [State.staysAsleep, hp, Bool.not_true, Bool.and_false]
  have htakes : s.awaken.takesInterrupt = true := by
    rw [awaken_of_hasInt hint]
    change (s.par.hasInt && (s.cfg.getLsbD 4 && s.enabledPending) && !s.nib &&
      !(s.par.xopAtomic && s.xopp) && !(s.par.cmpAtomic && s.cmpp)) = true
    rw [hint, hie, hp, hnib, hxop, hcmp]
    rfl
  rw [step_of_no_event henv, stepCore_interrupt hm ha htakes]

/-- Settles O8: the frame of the awake state, which differs from `s` in SLEEP only. -/
theorem interruptEntrySavesFrame : Obligations.InterruptEntrySavesFrame := by
  intro s henv hmode hint hwf hie hpend hnib hxop hcmp
  have hstep := step_takes_interrupt henv hmode hint hie hpend hnib hxop hcmp
  refine ⟨_, rfl, hstep, fun ht => ?_, ?_, ?_, ?_, ?_, ?_⟩
  · rw [hstep, idleTick_of_not_cycle]
    rw [trapEntry_par, awaken_par]; exact ht
  all_goals rw [awaken_of_hasInt hint]
  · have hpc : pageBase s.ia + 0x10 = BitVec.ofNat 16 (s.ia.toNat * 256 + 16) :=
      pageBase_add s.ia 16 (by omega)
    rw [← hpc]; rfl
  · exact getLsbD_clearIE s.cfg
  · intro k hk
    rw [← pageBase_add s.ia k (by omega), ← flagsByte_eq_ofNat]
    simp only [← lowByte_eq_setWidth]
    exact read_frame_offset (s := { s with sleep := false }) hwf hk
  · exact fun a => read_frame_outside (s := { s with sleep := false }) hwf
  · exact writeBytes_wf _ _ _ hwf

/-! ### Return -/

theorem exec_reti {s : State} (h : s.linkMode ≠ none) : exec .reti s = .next (complete (trapReturn s)) :=
  inMode_const h _

/-- RETI from a page that holds the frame of `s` loads the context that `s` had. -/
theorem trapReturn_of_frame {s u : State}
    (h : ∀ k, k < 16 → u.mem.read (pageBase u.iar + BitVec.ofNat 16 k) = (frameBytes s).getD k 0) :
    trapReturn u =
      { u with
        pc := s.pc, nib := false, cfg := s.cfg, c := s.c, z := s.z, n := s.n, v := s.v, ra1 := s.ra1,
        ia := s.ia, iar := s.iar, inIsr := false } := by
  have hbase : pageBase u.iar = pageBase u.iar + BitVec.ofNat 16 0 := (BitVec.add_zero _).symm
  have hpc : u.mem.read16 (pageBase u.iar) = s.pc := by
    rw [Memory.read16, show u.mem.read (pageBase u.iar + 1) = highByte s.pc from h 1 (by omega), hbase,
      h 0 (by omega)]
    exact highByte_append_lowByte s.pc
  have hra1 : u.mem.read16 (pageBase u.iar + 12) = s.ra1 := by
    rw [Memory.read16, show u.mem.read (pageBase u.iar + 12) = lowByte s.ra1 from h 12 (by omega),
      BitVec.add_assoc, show u.mem.read (pageBase u.iar + (12 + 1)) = highByte s.ra1 from h 13 (by omega)]
    exact highByte_append_lowByte s.ra1
  have hfl : u.mem.read (pageBase u.iar + 3) = s.flagsByte := h 3 (by omega)
  rw [trapReturn, hpc, hra1, hfl, flagsByte_c, flagsByte_z, flagsByte_n, flagsByte_v,
    show u.mem.read (pageBase u.iar + 2) = s.cfg from h 2 (by omega),
    show u.mem.read (pageBase u.iar + 14) = s.ia from h 14 (by omega),
    show u.mem.read (pageBase u.iar + 15) = s.iar from h 15 (by omega)]

/-- Settles O9: the frame bytes that `u` still holds are those the entry wrote, at the page that IAR names. -/
theorem returnRestoresInterruptedContext : Obligations.ReturnRestoresInterruptedContext := by
  intro s t u henv hmode hint ht hwf hie hpend hnib hxop hcmp hstep humode hiar hmem
  have ht' : t = trapEntry s.awaken := by
    rw [step_takes_interrupt henv hmode hint hie hpend hnib hxop hcmp,
      idleTick_of_not_cycle (by rw [trapEntry_par, awaken_par]; exact ht)] at hstep
    cases hstep
    rfl
  have hpage : u.iar = s.awaken.ia := by rw [hiar, ht', trapEntry_iar]
  have hframe (k : Nat) (hk : k < 16) :
      u.mem.read (pageBase u.iar + BitVec.ofNat 16 k) = (frameBytes s.awaken).getD k 0 := by
    rw [← read_frame_offset (by rw [awaken_mem]; exact hwf) hk, ← ht', hpage, awaken_ia,
      pageBase_add _ _ (by omega)]
    exact hmem k hk
  rw [exec_reti humode, trapReturn_of_frame hframe]
  simp [complete]

/-- Settles O10: the loads of `trapReturn` at the offsets of the frame, and the completion. -/
theorem retiLoadsFrame : Obligations.RetiLoadsFrame := by
  intro s hmode
  have hread (k : Nat) (hk : k < 256) :
      s.mem.read (pageBase s.iar + BitVec.ofNat 16 k) = s.mem.read (BitVec.ofNat 16 (s.iar.toNat * 256 + k)) :=
    congrArg s.mem.read (pageBase_add s.iar k hk)
  refine ⟨_, exec_reti hmode, ?_, hread 2 (by omega), ?_, ?_, ?_, ?_, hread 14 (by omega),
    hread 15 (by omega), rfl, fun _ => rfl⟩
  · have h0 := hread 0 (by omega)
    rw [BitVec.add_zero, Nat.add_zero] at h0
    rw [← h0, ← hread 1 (by omega)]
    exact read16_toNat s.mem (pageBase s.iar)
  · rw [← hread 3 (by omega)]; rfl
  · rw [← hread 3 (by omega)]; rfl
  · rw [← hread 3 (by omega)]; rfl
  · rw [← hread 12 (by omega), ← hread 13 (by omega)]
    exact (read16_toNat s.mem (pageBase s.iar + 12)).trans (by rw [BitVec.add_assoc]; rfl)

/-! ### SWI and WFI -/

/-- Settles O11: each meaning is its one bit followed by the common completion. -/
theorem swiAndWfiSetTheirBit : Obligations.SwiAndWfiSetTheirBit :=
  fun _ h => ⟨inMode_const h _, inMode_const h _⟩

end Sys2Proof.Machine
end

section
/-! Arithmetic, logic and bits (40_arithmetic.md to 42_bit_manipulation.md), and the flags of CMP. -/

namespace Sys2Proof.Machine

/-! ### Numbers and bits of the active width -/

theorem lowBits_lt (w : Nat) (x : Half) : lowBits w x < 2 ^ w := Nat.mod_lt _ (Nat.two_pow_pos w)

theorem putLow_lowBits (m : LinkMode) (x : Half) : putLow (width m) x (lowBits (width m) x) = x := by
  apply BitVec.eq_of_toNat_eq
  rw [putLow_toNat, lowBits, Nat.mod_mod, Nat.div_add_mod']

/-- The sign bit of the active part of a register is its top bit. -/
theorem signBit_lowBits (m : LinkMode) (x : Half) :
    signBit (width m) (lowBits (width m) x) = x.getLsbD (width m - 1) := by
  rw [signBit_putLow m x _ (lowBits_lt _ x), putLow_lowBits]

/-- `signed_w` of a number of `w` bits is its two's-complement value. -/
theorem signed_eq_signedValue (m : LinkMode) {v : Nat} (hv : v < 2 ^ width m) :
    signed (width m) v = signedValue (width m) v := by
  rw [signedValue, ← signed_mod, Nat.mod_eq_of_lt hv]

theorem signedValue_lowBits (w : Nat) (x : Half) : signedValue w (lowBits w x) = signedValue w x.toNat :=
  congrArg BitVec.toInt (BitVec.eq_of_toNat_eq (by simp [lowBits]))

theorem outOfRange_iff (w : Nat) (x : Int) : outOfRange w x = true ↔ Overflows w x := decide_eq_true_iff

theorem active_lt (m : LinkMode) (s : State) : s.active m < 2 ^ width m := lowBits_lt _ _

/-! ### Sums and differences (40_arithmetic.md R150 to R154) -/

/-- A sum or difference is the active accumulator after it, whose bits above stay. -/
theorem acc_setArith (m : LinkMode) (s : State) (r : AluResult) :
    (s.setArith m r).acc.toNat % 2 ^ width m = r.value % 2 ^ width m ∧
      (s.setArith m r).acc.toNat / 2 ^ width m = s.acc.toNat / 2 ^ width m :=
  ⟨lowBits_putLow m s.acc r.value, high_putLow m s.acc r.value⟩

theorem add_overflow_iff (m : LinkMode) (x : Half) {b : Nat} (hb : b < 2 ^ width m) (cin : Nat) :
    (addResult (width m) (lowBits (width m) x) b cin).overflow = true ↔
      Overflows (width m) (signedValue (width m) x.toNat + signedValue (width m) b + cin) := by
  rw [← signed_eq_signedValue m hb, signedValue, ← signed_mod]
  exact outOfRange_iff _ _

theorem sub_overflow_iff (m : LinkMode) (x : Half) {b : Nat} (hb : b < 2 ^ width m) (bin : Nat) :
    (subResult (width m) (lowBits (width m) x) b bin).overflow = true ↔
      Overflows (width m) (signedValue (width m) x.toNat - signedValue (width m) b - bin) := by
  rw [← signed_eq_signedValue m hb, signedValue, ← signed_mod]
  exact outOfRange_iff _ _

/-- The register form and the two immediate forms of an instruction do one thing with the operand's value. -/
theorem exec_of_operand {m : LinkMode} {s : State} {imm4 : Nibble} {imm8 : Byte} {i i4 i8 : Instr}
    {f : Nat → State} (hreg : exec i s = .next (f (s.source m)))
    (h4 : exec i4 s = .next (f (immOperand m imm4))) (h8 : exec i8 s = .next (f (immOperand m imm8))) :
    ∀ p ∈ [(i, s.rs0.toNat % 2 ^ width m), (i4, imm4.toNat), (i8, imm8.toNat % 2 ^ width m)],
      exec p.1 s = .next (f p.2) ∧ p.2 < 2 ^ width m := by
  intro p hp
  simp only [List.mem_cons, List.not_mem_nil, or_false] at hp
  obtain rfl | rfl | rfl := hp
  · exact ⟨hreg, lowBits_lt _ _⟩
  · rw [immOperand_nibble] at h4
    exact ⟨h4, immOperand_nibble m imm4 ▸ Nat.mod_lt _ (Nat.two_pow_pos _)⟩
  · exact ⟨h8, Nat.mod_lt _ (Nat.two_pow_pos _)⟩

/-- Settles O16: the three forms are one sum with the operand's value (the name `addResult` is the model's). -/
theorem addResult_holds : Obligations.AddResult := by
  intro m s imm4 imm8 hm p hp
  obtain ⟨hexec, hb⟩ := exec_of_operand (m := m) (s := s) (imm4 := imm4) (imm8 := imm8) (i := .add)
    (i4 := .addi4 imm4) (i8 := .addi8 imm8) (f := fun b => complete (opAdd m b s))
    (inMode_of_mode hm _) (inMode_of_mode hm _) (inMode_of_mode hm _) p hp
  obtain ⟨hlow, hhigh⟩ := acc_setArith m s (addResult (width m) (s.active m) p.2 s.carryIn)
  exact ⟨complete (s.setArith m (addResult (width m) (s.active m) p.2 s.carryIn)), _, s.carryIn,
    hexec.trans (congrArg _ (complete_applyNvRule _)), rfl, rfl, hlow.trans (Nat.mod_mod _ _), hhigh,
    decide_eq_true_iff, signBit_putLow m s.acc _ (Nat.mod_lt _ (Nat.two_pow_pos _)),
    add_overflow_iff m s.acc hb _, rfl, fun _ => rfl⟩

theorem diffMod_cast (m : LinkMode) (a b bin : Nat) :
    (diffMod (width m) a b bin : Int) = ((a : Int) - b - bin) % 2 ^ width m :=
  Int.toNat_of_nonneg (Int.emod_nonneg _ (by positivity))

theorem diffMod_lt (m : LinkMode) (a b bin : Nat) : diffMod (width m) a b bin < 2 ^ width m := by
  have h := Int.emod_lt_of_pos ((a : Int) - b - bin) (show (0 : Int) < 2 ^ width m by positivity)
  rw [← diffMod_cast] at h
  exact_mod_cast h

/-- The borrow input as an integer (40_arithmetic.md R152, parameter SUB_BIN). -/
theorem borrowIn_cast (s : State) :
    (s.borrowIn : Int) =
      if s.cfg.getLsbD 7 = false then 0
      else if s.par.subBin = .notCarry then 1 - s.c.toNat else s.c.toNat := by
  unfold State.borrowIn State.ci
  cases s.cfg.getLsbD 7 <;> cases s.par.subBin <;> cases s.c <;> rfl

/-- Settles O17: the three forms are one difference with the operand's value (the name `subResult` is the
model's). -/
theorem subResult_holds : Obligations.SubResult := by
  intro m s imm4 imm8 hm p hp
  obtain ⟨hexec, hb⟩ := exec_of_operand (m := m) (s := s) (imm4 := imm4) (imm8 := imm8) (i := .sub)
    (i4 := .subi4 imm4) (i8 := .subi8 imm8) (f := fun b => complete (opSub m b s))
    (inMode_of_mode hm _) (inMode_of_mode hm _) (inMode_of_mode hm _) p hp
  have hlt := diffMod_lt m (s.active m) p.2 s.borrowIn
  obtain ⟨hlow, hhigh⟩ := acc_setArith m s (subResult (width m) (s.active m) p.2 s.borrowIn)
  refine ⟨complete (s.setArith m (subResult (width m) (s.active m) p.2 s.borrowIn)), _, s.borrowIn,
    hexec.trans (congrArg _ (complete_applyNvRule _)), borrowIn_cast s, rfl, ?_, hhigh, ?_,
    signBit_putLow m s.acc _ hlt, sub_overflow_iff m s.acc hb _, rfl, fun _ => rfl⟩
  · rw [complete_acc, hlow]
    change ((diffMod (width m) (s.active m) p.2 s.borrowIn % 2 ^ width m : Nat) : Int) = _
    rw [Nat.mod_eq_of_lt hlt]
    exact diffMod_cast m _ _ _
  · change decide (p.2 + s.borrowIn ≤ s.active m) = true ↔ 0 ≤ ((s.active m : Nat) : Int) - p.2 - s.borrowIn
    rw [decide_eq_true_iff]
    omega

/-- A sum of 1 overflows where the largest positive value is left (40_arithmetic.md R153). -/
theorem inc_overflow_iff (m : LinkMode) {a : Nat} (ha : a < 2 ^ width m) :
    (addResult (width m) a 1 0).overflow = true ↔ a = 2 ^ (width m - 1) - 1 := by
  simp only [addResult, outOfRange, signed]
  cases m <;> simp only [width] at ha ⊢ <;> norm_num at ha ⊢ <;> split_ifs <;> omega

/-- A difference of 1 overflows where the most negative value is left (40_arithmetic.md R154). -/
theorem dec_overflow_iff (m : LinkMode) {a : Nat} (ha : a < 2 ^ width m) :
    (subResult (width m) a 1 0).overflow = true ↔ a = 2 ^ (width m - 1) := by
  simp only [subResult, outOfRange, signed]
  cases m <;> simp only [width] at ha ⊢ <;> norm_num at ha ⊢ <;> split_ifs <;> omega

/-- Adding back what DEC subtracted. -/
theorem diffMod_one_add (m : LinkMode) (a : Nat) :
    (diffMod (width m) a 1 0 + 1) % 2 ^ width m = a % 2 ^ width m := by
  have h := diffMod_cast m a 1 0
  cases m <;> simp only [width] at h ⊢ <;> norm_num at h ⊢ <;> omega

/-- Settles O18: INC adds 1 and DEC subtracts 1, both without carry or borrow input. -/
theorem incDecResult : Obligations.IncDecResult := by
  intro m s hm
  have hlt := active_lt m s
  constructor
  · obtain ⟨hlow, hhigh⟩ := acc_setArith m s (addResult (width m) (s.active m) 1 0)
    refine ⟨complete (s.setArith m (addResult (width m) (s.active m) 1 0)),
      (inMode_of_mode hm _).trans (congrArg _ (complete_applyNvRule _)), ?_, hhigh, ?_,
      signBit_putLow m s.acc _ (Nat.mod_lt _ (Nat.two_pow_pos _)), inc_overflow_iff m hlt, rfl,
      fun _ => rfl⟩
    · calc _ = (s.active m + 1 + 0) % 2 ^ width m % 2 ^ width m := hlow
        _ = (s.acc.toNat + 1) % 2 ^ width m := by
          rw [Nat.mod_mod, Nat.add_zero, State.active, lowBits, Nat.mod_add_mod]
    · change decide (2 ^ width m ≤ s.active m + 1 + 0) = true ↔ s.active m = 2 ^ width m - 1
      rw [decide_eq_true_iff]
      omega
  · have hdlt := diffMod_lt m (s.active m) 1 0
    obtain ⟨hlow, hhigh⟩ := acc_setArith m s (subResult (width m) (s.active m) 1 0)
    refine ⟨complete (s.setArith m (subResult (width m) (s.active m) 1 0)),
      (inMode_of_mode hm _).trans (congrArg _ (complete_applyNvRule _)), ?_, hhigh, ?_,
      signBit_putLow m s.acc _ hdlt, dec_overflow_iff m hlt, rfl, fun _ => rfl⟩
    · calc _ = (diffMod (width m) (s.active m) 1 0 + 1) % 2 ^ width m := Nat.ModEq.add_right 1 hlow
        _ = s.active m % 2 ^ width m := diffMod_one_add m _
        _ = s.acc.toNat % 2 ^ width m := Nat.mod_mod _ _
    · change decide (1 + 0 ≤ s.active m) = false ↔ s.active m = 0
      rw [decide_eq_false_iff_not]
      omega

/-- The low bits of a 16-bit difference are the difference of the low bits. -/
theorem diffMod_lowBits (m : LinkMode) (x y : Half) :
    diffMod (width m) (lowBits (width m) x) (lowBits (width m) y) 0 = lowBits (width m) (x - y) := by
  have h := diffMod_cast m (lowBits (width m) x) (lowBits (width m) y) 0
  have hx := x.isLt
  have hy := y.isLt
  simp only [lowBits, BitVec.toNat_sub] at h ⊢
  cases m <;> simp only [width] at h ⊢ <;> norm_num at h ⊢ <;> omega

/-- Settles O28: the flags are those of a difference without borrow input, whose sign bit is that of the
16-bit difference at the active width. -/
theorem cmpResult : Obligations.CmpResult := by
  intro m s hm
  have hn : signBit (width m) (diffMod (width m) (s.active m) (s.source m) 0) =
      (s.acc - s.rs0).getLsbD (width m - 1) := by
    rw [← signBit_lowBits m, ← diffMod_lowBits]; rfl
  have hv := sub_overflow_iff m s.acc (b := s.source m) (lowBits_lt _ _) 0
  rw [State.source, signedValue_lowBits, Nat.cast_zero, sub_zero] at hv
  exact ⟨_, (inMode_of_mode hm _).trans rfl, decide_eq_true_iff, decide_eq_true_iff, hn, hv, rfl, fun _ => rfl⟩

end Sys2Proof.Machine
end

section
/-! Logic, shifts and bit tests, bit by bit (41_logical.md, 42_bit_manipulation.md). -/

namespace Sys2Proof.Machine

theorem testBit_active (m : LinkMode) (s : State) (j : Nat) :
    (s.active m).testBit j = (decide (j < width m) && s.acc.getLsbD j) := testBit_lowBits _ _ _

theorem testBit_source (m : LinkMode) (s : State) (j : Nat) :
    (s.source m).testBit j = (decide (j < width m) && s.rs0.getLsbD j) := testBit_lowBits _ _ _

/-- Settles O19: all nine are `State.setLogic` of a number whose bits are those of the operation. -/
theorem logicResult : Obligations.LogicResult := by
  intro m s imm4 imm8 hm p hp
  obtain ⟨v, hexec, hv⟩ : ∃ v, exec p.1 s = .next (complete (s.setLogic m v)) ∧
      ∀ j, j < width m → v.testBit j = p.2.2 (s.acc.getLsbD j) (p.2.1 j) := by
    simp only [List.mem_cons, List.not_mem_nil, or_false] at hp
    obtain rfl | rfl | rfl | rfl | rfl | rfl | rfl | rfl | rfl := hp
    all_goals refine ⟨_, inMode_of_mode hm _, fun j hj => ?_⟩
    · simp [testBit_active, testBit_source, hj]
    · simp [testBit_active, testBit_immOperand, hj]
    · simp [testBit_active, testBit_immOperand, hj]
    · simp [testBit_active, testBit_source, hj]
    · simp [testBit_active, testBit_immOperand, hj]
    · simp [testBit_active, testBit_immOperand, hj]
    · simp [testBit_active, testBit_source, hj]
    · simp [testBit_active, testBit_immOperand, hj]
    · simp [testBit_active, testBit_immOperand, hj]
  refine ⟨complete (s.setActive m v), hexec.trans (congrArg _ (complete_applyNvRule _)), fun j => ?_, rfl,
    fun _ => rfl⟩
  rw [complete_acc, setActive_acc, getLsbD_putLow]
  split
  · rename_i hj
    exact hv j hj
  · rfl

/-! ### INV (41_logical.md R171) -/

theorem decodeExtended_inv (c : DecodeCtx) (n0 n1 : Nibble) : decodeExtended c 0b0101 n0 n1 = .inv := rfl

/-- The complement of `Wb` bits, bit by bit. -/
theorem testBit_complement (m : LinkMode) (s : State) {j : Nat} (hj : j < width m) :
    (2 ^ width m - 1 - s.active m).testBit j = !s.acc.getLsbD j := by
  rw [Nat.sub_sub, Nat.add_comm, Nat.testBit_two_pow_sub_succ (active_lt m s), testBit_active]
  simp [hj]

/-- What INC leaves in the active accumulator. -/
theorem exec_inc_acc {m : LinkMode} {s t : State} (hm : s.linkMode = some m) (h : exec .inc s = .next t) :
    t.acc = putLow (width m) s.acc (s.active m + 1) := by
  have ht : t = complete (opInc m s) := by
    have hinc : exec .inc s = .next (complete (opInc m s)) := inMode_of_mode hm _
    rw [hinc] at h
    cases h
    rfl
  rw [ht, complete_acc, opInc, applyNvRule_acc, setArith_acc]
  apply BitVec.eq_of_toNat_eq
  rw [putLow_toNat, putLow_toNat]
  simp [addResult]

theorem exec_inv {m : LinkMode} {s : State} (hm : s.linkMode = some m) :
    exec .inv s =
      .next (complete (s.setActive m (2 ^ width m - 1 - s.active m))).applyNvRule :=
  (inMode_of_mode hm _).trans (congrArg _ (complete_applyNvRule _))

/-- Settles O20: `~A + 1` and `A` add up to a multiple of `2^Wb`. -/
theorem invComplementsActiveWidth : Obligations.InvComplementsActiveWidth := by
  refine ⟨fun c hcol => ?_, fun m s hm => ?_, fun m s t u hm hinv hinc => ?_⟩
  · have hinv : decodeNibbles c 0b0101 0 0 = .inv := by
      rw [decodeNibbles_extended hcol, decodeExtended_inv]
    rw [decode_singleton (by rw [hinv]; rfl), hinv]
  · refine ⟨complete (s.setActive m (2 ^ width m - 1 - s.active m)), exec_inv hm, fun hnv => ?_, fun j => ?_,
      rfl, fun _ => rfl⟩
    · rw [exec_inv hm, applyNvRule_arithmetic (by exact hnv)]
    · rw [complete_acc, setActive_acc, getLsbD_putLow]
      split
      · rename_i hj
        exact testBit_complement m s hj
      · rfl
  · rw [exec_inv hm] at hinv
    cases hinv
    have hmode : (complete (s.setActive m (2 ^ width m - 1 - s.active m))).applyNvRule.linkMode = some m := by
      rw [State.linkMode, applyNvRule_par, applyNvRule_cfg]; exact hm
    have hlt := active_lt m s
    have hlow := lowBits_putLow m s.acc (2 ^ width m - 1 - s.active m)
    rw [Nat.mod_eq_of_lt (by omega)] at hlow
    have hu := congrArg (lowBits (width m)) (exec_inc_acc hmode hinc)
    rw [lowBits_putLow, State.active, applyNvRule_acc, complete_acc, setActive_acc, hlow] at hu
    calc (u.acc.toNat + s.acc.toNat) % 2 ^ width m
        = (lowBits (width m) u.acc + s.active m) % 2 ^ width m := Nat.add_mod _ _ _
      _ = (2 ^ width m - 1 - s.active m + 1 + s.active m) % 2 ^ width m := by rw [hu, Nat.mod_add_mod]
      _ = 2 ^ width m % 2 ^ width m := by congr 1; omega
      _ = 0 := Nat.mod_self _

/-! ### Shifts (42_bit_manipulation.md R190, R191) -/

/-- Settles O21: a shift is a product or a quotient by 2, whose bits are those of A one place off. -/
theorem shiftResult : Obligations.ShiftResult := by
  intro m s hm
  have hw : 0 < width m := by cases m <;> simp [width]
  constructor
  · refine ⟨complete { s.setActive m (s.active m * 2) with c := signBit (width m) (s.active m) },
      (inMode_of_mode hm _).trans (congrArg _ (complete_applyNvRule _)), fun j => ?_,
      signBit_lowBits m s.acc, rfl, fun _ => rfl⟩
    rw [complete_acc]
    refine (getLsbD_putLow m _ _ j).trans ?_
    split
    · cases j with
      | zero => simp
      | succ k =>
        have hk : k < width m := by omega
        rw [Nat.testBit_succ, Nat.mul_div_cancel _ (by omega), testBit_active, if_neg (by omega)]
        simp [hk]
    · rfl
  · refine ⟨complete { s.setActive m (s.active m / 2) with c := decide (s.active m % 2 = 1) },
      (inMode_of_mode hm _).trans (congrArg _ (complete_applyNvRule _)), fun j => ?_, ?_, rfl, fun _ => rfl⟩
    · rw [complete_acc]
      refine (getLsbD_putLow m _ _ j).trans ?_
      split
      · rw [← Nat.testBit_succ, testBit_active]
        by_cases hj : j = width m - 1
        · rw [if_pos hj, decide_eq_false (by omega), Bool.false_and]
        · rw [if_neg hj, decide_eq_true (by omega), Bool.true_and]
      · rfl
    · calc decide (s.active m % 2 = 1) = (s.active m).testBit 0 := (Nat.testBit_zero _).symm
        _ = s.acc.getLsbD 0 := by rw [testBit_active, decide_eq_true hw, Bool.true_and]

/-! ### Bit tests (42_bit_manipulation.md R192, R193) -/

theorem lowNibble_toNat (b : Byte) : (lowNibble b).toNat = b.toNat % 16 := by
  simp [lowNibble, BitVec.extractLsb'_toNat]

theorem lowByte_toNat (x : Half) : (lowByte x).toNat = x.toNat % 256 := by
  simp [lowByte, BitVec.extractLsb'_toNat]

/-- A masked number is not zero exactly where a bit of both is set. -/
theorem and_ne_zero_iff (a b : Nat) :
    a &&& b ≠ 0 ↔ ∃ j, a.testBit j = true ∧ b.testBit j = true := by
  constructor
  · intro h
    obtain ⟨j, hj⟩ := Nat.exists_testBit_of_ne_zero h
    exact ⟨j, by simpa using hj⟩
  · rintro ⟨j, ha, hb⟩ h
    have := Nat.zero_testBit j
    rw [← h, Nat.testBit_and, ha, hb] at this
    cases this

/-- Settles O22: the index of BTST is four bits, and the mask of TST has no bit above the active width. -/
theorem bitTestResult : Obligations.BitTestResult := by
  intro m s imm4 imm8 hm
  refine ⟨fun p hp => ?_, fun p hp => ?_⟩
  · obtain ⟨idx, hexec, hidx⟩ : ∃ idx : Nibble, exec p.1 s = .next (complete (opBtst idx s)) ∧
        idx.toNat = p.2 := by
      simp only [List.mem_cons, List.not_mem_nil, or_false] at hp
      obtain rfl | rfl | rfl := hp
      · refine ⟨_, inMode_of_mode hm _, ?_⟩
        rw [lowNibble_toNat, lowByte_toNat]; dsimp only; omega
      · exact ⟨_, inMode_of_mode hm _, rfl⟩
      · exact ⟨_, inMode_of_mode hm _, lowNibble_toNat imm8⟩
    rw [hexec, ← hidx, opBtst, State.setCarry, complete_applyNvRule]
    rfl
  · obtain ⟨mask, hexec, hmask⟩ : ∃ mask, exec p.1 s = .next (complete (opTst m mask s)) ∧
        ∀ j, mask.testBit j = (decide (j < width m) && p.2 j) := by
      simp only [List.mem_cons, List.not_mem_nil, or_false] at hp
      obtain rfl | rfl | rfl := hp
      · exact ⟨_, inMode_of_mode hm _, testBit_source m s⟩
      · exact ⟨_, inMode_of_mode hm _, testBit_immOperand m imm4⟩
      · exact ⟨_, inMode_of_mode hm _, testBit_immOperand m imm8⟩
    refine ⟨complete { s with c := decide (s.active m &&& mask ≠ 0) },
      hexec.trans (congrArg _ (complete_applyNvRule _)), ?_, rfl, fun _ => rfl⟩
    rw [complete_c, decide_eq_true_iff, and_ne_zero_iff]
    refine exists_congr fun j => ?_
    rw [testBit_active, hmask, Bool.and_eq_true, Bool.and_eq_true, decide_eq_true_iff]
    tauto

end Sys2Proof.Machine
end

section
/-! Control flow and structure (43_control_flow.md, 44_structural.md). -/

namespace Sys2Proof.Machine

/-! ### Branches (43_control_flow.md R210 to R212) -/

theorem complete_opBranch_taken {k : Nat} {cond : Bool} (h : cond = true) (imm : BitVec k) (s : State) :
    complete (opBranch cond imm s) =
      { s with
        pc := (if s.nib then s.pc + 1 else s.pc) + s.branchOffset imm
        nib := false, xopp := false, cmpp := false, z := false } := by
  rw [h]; rfl

theorem complete_opBranch_not_taken {k : Nat} {cond : Bool} (h : cond = false) (imm : BitVec k) (s : State) :
    complete (opBranch cond imm s) = { s with xopp := false, cmpp := false, z := false } := by
  rw [h]; rfl

theorem beqCond_iff (s : State) (m : LinkMode) :
    s.beqCond m = true ↔ if s.cmpp then s.z = true else s.acc.toNat % 2 ^ width m = 0 := by
  unfold State.beqCond
  cases s.cmpp
  · exact decide_eq_true_iff
  · rfl

/-- Settles O23: both forms are one branch, on the condition of `beqCond_iff`. -/
theorem beqzResult : Obligations.BeqzResult := by
  intro m s imm4 imm8 hm p hp
  obtain ⟨k, imm, hexec, hoff⟩ : ∃ (k : Nat) (imm : BitVec k),
      exec p.1 s = .next (complete (opBranch (s.beqCond m) imm s)) ∧
        s.branchOffset imm = BitVec.ofInt 16 (p.2 * (if s.cfg.getLsbD 5 then 4 else 1)) := by
    simp only [List.mem_cons, List.not_mem_nil, or_false] at hp
    obtain rfl | rfl := hp
    · exact ⟨_, imm4, inMode_of_mode hm _, branchOffset_nibble s imm4⟩
    · exact ⟨_, imm8, inMode_of_mode hm _, branchOffset_byte s imm8⟩
  rw [← beqCond_iff, hexec, ← hoff]
  refine ⟨fun h => ?_, fun h => ?_⟩
  · rw [complete_opBranch_taken h]
  · rw [complete_opBranch_not_taken (Bool.eq_false_iff.mpr h)]

/-- Settles O24: both forms are one branch, on C. -/
theorem bcResult : Obligations.BcResult := by
  intro s imm4 imm8 hmode p hp
  obtain ⟨k, imm, hexec, hoff⟩ : ∃ (k : Nat) (imm : BitVec k),
      exec p.1 s = .next (complete (opBranch s.c imm s)) ∧
        s.branchOffset imm = BitVec.ofInt 16 (p.2 * (if s.cfg.getLsbD 5 then 4 else 1)) := by
    simp only [List.mem_cons, List.not_mem_nil, or_false] at hp
    obtain rfl | rfl := hp
    · exact ⟨_, imm4, inMode_const hmode _, branchOffset_nibble s imm4⟩
    · exact ⟨_, imm8, inMode_const hmode _, branchOffset_byte s imm8⟩
  rw [hexec, ← hoff]
  refine ⟨fun h => ?_, fun h => ?_⟩
  · rw [complete_opBranch_taken h]
  · rw [complete_opBranch_not_taken h]

/-! ### Calls (43_control_flow.md R213 to R215) -/

theorem exec_jal {s : State} (h : s.linkMode ≠ none) :
    exec .jal s = .next (complete { s.jumpTo s.ra0 with ra1 := s.pcNext }) :=
  inMode_const h _

/-- Settles O25: the record updates of the link and of the jump, and the completion. -/
theorem jalLinksAndJumps : Obligations.JalLinksAndJumps := fun _ => exec_jal

/-- Settles O27: RSA puts the link of the call into RA0, from which JMP takes its target. -/
theorem callReturnsToNext : Obligations.CallReturnsToNext := by
  intro s t u v hs hu hjal hlink hrsa
  rw [exec_jal hs] at hjal
  rw [exec_rsa hu] at hrsa
  cases hjal
  cases hrsa
  exact ⟨_, exec_jmp (by exact hu), hlink, rfl⟩

/-! ### CFG (44_structural.md R231) -/

/-- Settles O29: the link mode by its two bits (`linkMode_eq`), and the decode context field by field. -/
theorem cfgLoadsImmediate : Obligations.CfgLoadsImmediate := by
  intro s imm hmode
  refine ⟨_, rfl, inMode_const hmode _, fun u hpar hcfg => ?_⟩
  have hpar' : u.par = s.par := hpar
  have hcfg' : u.cfg = imm := hcfg
  have hlink := linkMode_eq u
  rw [hcfg', hpar'] at hlink
  refine ⟨hlink, fun m hm => ?_⟩
  rw [hm] at hlink
  simp only [State.decodeCtx, decodeCtxOf, DecodeCtx.wide, DecodeCtx.spe, hpar', hcfg']
  cases h1 : imm.getLsbD 1 <;> cases h0 : imm.getLsbD 0 <;> simp only [h1, h0] at hlink
  · cases hlink; exact ⟨rfl, rfl, rfl⟩
  · cases hlink; exact ⟨rfl, rfl, rfl⟩
  · cases hlink; exact ⟨rfl, rfl, rfl⟩
  · cases hmad : s.par.hasMad <;> rw [hmad] at hlink <;> cases hlink
    exact ⟨rfl, rfl, rfl⟩

/-! ### Rotations and exchanges (44_structural.md R234, R235, R240) -/

/-- The low `k` bits of a register put above its high `l` bits, as a number. -/
theorem toNat_swap (x : Half) {k l : Nat} (h : k + l = 16) :
    (x.extractLsb' 0 k ++ x.extractLsb' k l).toNat = x.toNat % 2 ^ k * 2 ^ l + x.toNat / 2 ^ k := by
  have hdiv : x.toNat / 2 ^ k < 2 ^ l :=
    Nat.div_lt_of_lt_mul (by rw [← Nat.pow_add, h]; exact x.isLt)
  rw [BitVec.toNat_append, ← Nat.shiftLeft_add_eq_or_of_lt (BitVec.isLt _), BitVec.extractLsb'_toNat,
    BitVec.extractLsb'_toNat, Nat.shiftRight_eq_div_pow, Nat.shiftRight_eq_div_pow, Nat.mod_eq_of_lt hdiv,
    Nat.shiftLeft_eq, Nat.pow_zero, Nat.div_one]

/-- Rotation of a register by one link unit, in each link mode and direction. -/
theorem rotate16_eq (m : LinkMode) (d : RotDir) (x : Half) :
    rotate16 d (width m) x =
      (match m, d with
      | .ul, .right => (x.extractLsb' 0 4 ++ x.extractLsb' 4 12 : BitVec 16)
      | .ul, .left => (x.extractLsb' 0 12 ++ x.extractLsb' 12 4 : BitVec 16)
      | .lk8, _ => (x.extractLsb' 0 8 ++ x.extractLsb' 8 8 : BitVec 16)
      | _, _ => x) := by
  have hswap {k l : Nat} (h : k + l = 16) : BitVec.ofNat 16 (x.toNat % 2 ^ k * 2 ^ l + x.toNat / 2 ^ k) =
      (x.extractLsb' 0 k ++ x.extractLsb' k l).setWidth 16 := by
    rw [← toNat_swap x h, BitVec.ofNat_toNat]
  have hwide : rotate16 d 16 x = x := by
    have := x.isLt
    apply BitVec.eq_of_toNat_eq
    cases d <;> simp only [rotate16, BitVec.toNat_ofNat] <;> omega
  cases m <;> cases d
  · exact (hswap (k := 4) rfl).trans (BitVec.setWidth_eq _)
  · exact (hswap (k := 12) rfl).trans (BitVec.setWidth_eq _)
  · exact (hswap (k := 8) rfl).trans (BitVec.setWidth_eq _)
  · exact (hswap (k := 8) rfl).trans (BitVec.setWidth_eq _)
  · exact hwide
  · exact hwide
  · exact hwide
  · exact hwide

/-- Settles O30: the rotation asked for is `rotate16` by the active width (`rotate16_eq`). -/
theorem rotationResult : Obligations.RotationResult := by
  intro m s hm rot hrot
  have hacc : rot s.acc = rotate16 s.par.raccDir (width m) s.acc :=
    (hrot s.acc).trans (rotate16_eq m s.par.raccDir s.acc).symm
  have hrs0 : rot s.rs0 = rotate16 s.par.raccDir (width m) s.rs0 :=
    (hrot s.rs0).trans (rotate16_eq m s.par.raccDir s.rs0).symm
  rw [hacc, hrs0]
  exact ⟨inMode_of_mode hm _, inMode_of_mode hm _⟩

/-- Settles O32: both halves of the exchange are `putLow`, bit by bit. -/
theorem ssExchangesActiveWidth : Obligations.SsExchangesActiveWidth := by
  refine ⟨rfl, fun _ => rfl, fun m s hm => ?_⟩
  refine ⟨_, inMode_of_mode hm _, fun j => ?_, fun j => ?_, rfl, fun _ => rfl⟩
  · refine (getLsbD_putLow m s.acc (s.source m) j).trans ?_
    rw [testBit_source]
    split
    · rename_i hj; rw [decide_eq_true hj, Bool.true_and]
    · rfl
  · refine (getLsbD_putLow m s.rs0 (s.active m) j).trans ?_
    rw [testBit_active]
    split
    · rename_i hj; rw [decide_eq_true hj, Bool.true_and]
    · rfl

/-! ### LDi (44_structural.md R243) -/

/-- Settles O33: the active part takes the immediate modulo `2^Wb`, the part above stays. -/
theorem ldiResult : Obligations.LdiResult := by
  intro m s imm4 imm8 hm p hp
  obtain ⟨v, hexec, hv⟩ : ∃ v, exec p.1 s = .next (complete (s.setActive m v)) ∧ v % 2 ^ width m = p.2 := by
    simp only [List.mem_cons, List.not_mem_nil, or_false] at hp
    obtain rfl | rfl := hp
    · exact ⟨_, inMode_of_mode hm _, (Nat.mod_mod _ _).trans (immOperand_nibble m imm4)⟩
    · exact ⟨_, inMode_of_mode hm _, Nat.mod_mod _ _⟩
  exact ⟨_, hexec, (lowBits_putLow m s.acc v).trans hv, high_putLow m s.acc v, rfl, fun _ => rfl⟩

/-! ### Sequencing and reserved opcodes (44_structural.md R244 to R248) -/

/-- Settles O35: each meaning is its record update, in whatever link mode is in force. -/
theorem xopClcAndNoOps : Obligations.XopClcAndNoOps :=
  fun _ h => ⟨inMode_const h _, inMode_const h _, inMode_const h _, inMode_const h _⟩

/-- Settles O36: all four are `opReserved`, for which only RSV0100 is never kept as a NOP. -/
theorem reservedOpcodes : Obligations.ReservedOpcodes := by
  intro s hmode i hi
  obtain ⟨keep, hexec, hkeep⟩ : ∃ keep, exec i s = opReserved keep s ∧
      (keep = false ↔ i = .rsv0100 ∨ s.par.hasMad = false) := by
    simp only [List.mem_cons, List.not_mem_nil, or_false] at hi
    obtain rfl | rfl | rfl | rfl := hi
    · exact ⟨false, rfl, by simp⟩
    all_goals exact ⟨s.par.hasMad, rfl, by simp⟩
  rw [hexec, opReserved_of_mode hmode]
  refine ⟨fun hno => if_neg (by simp [hno]), fun hr hk => if_pos ⟨hr, hkeep.mpr hk⟩,
    fun _ h0100 hmad => if_neg fun ⟨_, hk⟩ => ?_⟩
  obtain h | h := hkeep.mp hk
  · exact h0100 h
  · exact ne_true_of_eq_false h hmad

end Sys2Proof.Machine
end

section
/-! Memory access, CSR access and the MAD profile (45_xmem.md, 46_csr_access.md, 48_mad_profile.md). -/

namespace Sys2Proof.Machine

/-! ### Addresses of XMEM (45_xmem.md R260, R263) -/

theorem addrReg_eq_ite (s : State) (ar : AddrReg) :
    s.addrReg ar = if ar = .ra1 then s.ra1 else s.ra0 := by cases ar <;> rfl

theorem setAddrReg_eq_ite (s : State) (ar : AddrReg) (v : Half) :
    s.setAddrReg ar v =
      { s with
        ra0 := if ar = .ra0 then v else s.ra0
        ra1 := if ar = .ra1 then v else s.ra1 } := by cases ar <;> rfl

/-- Post-modification adds the stride or its negative, or nothing. -/
theorem postAddr_eq_add (m : LinkMode) (post : Bool) (dir : StrideDir) (a : Half) :
    postAddr m post dir a = a +
      (if post = false then 0
      else if dir = .up then (if width m = 16 then 2 else 1)
      else (if width m = 16 then -2 else -1)) := by
  cases post
  · exact (BitVec.add_zero a).symm
  · cases dir
    · rfl
    · cases m <;> exact BitVec.sub_eq_add_neg a _

theorem exec_xmem {m : LinkMode} {s : State} (hm : s.linkMode = some m) (op : MemOp) (post : Bool)
    (dir : StrideDir) (ar : AddrReg) :
    exec (.xmem op post dir ar) s = .next (complete (opXmem m op post dir ar s)) :=
  inMode_of_mode hm _

/-! ### Loads (45_xmem.md R261) -/

/-- Settles O37: the value loaded replaces the active part, in each of the three sizes. -/
theorem xmemLoadResult : Obligations.XmemLoadResult := by
  intro m s post dir ar a d hm ha hd
  rw [← addrReg_eq_ite] at ha
  have hpost : postAddr m post dir (s.addrReg ar) = a + d := by rw [postAddr_eq_add, ← hd, ha]
  refine ⟨{ s with
      acc := putLow (width m) s.acc (loadValue m a s), ra0 := if ar = .ra0 then a + d else s.ra0,
      ra1 := if ar = .ra1 then a + d else s.ra1, xopp := false, cmpp := false, z := false }, ?_, ?_, ?_,
    ?_, rfl, fun _ => rfl⟩
  · rw [exec_xmem hm, opXmem, hpost, ← ha, setAddrReg_eq_ite]; rfl
  · rintro rfl; exact putLow_toNat .ul s.acc _
  · rintro rfl
    refine (putLow_toNat .lk8 s.acc _).trans (congrArg _ ?_)
    exact Nat.mod_eq_of_lt (s.mem.read a).isLt
  · intro hwide
    have hw : width m = 16 := by obtain rfl | rfl := hwide <;> rfl
    have hlt := (s.mem.read16 a).isLt
    have hacc := s.acc.isLt
    dsimp only
    rw [putLow_toNat, loadValue, if_pos hw, hw, Nat.mod_eq_of_lt hlt, Nat.div_eq_of_lt hacc, Nat.zero_mul,
      Nat.zero_add, read16_toNat]

/-! ### Stores (45_xmem.md R262) -/

theorem append_nibbles_toNat (x y : Nibble) : (x ++ y : BitVec 8).toNat = x.toNat * 16 + y.toNat := by
  rw [BitVec.toNat_append, ← Nat.shiftLeft_add_eq_or_of_lt y.isLt, Nat.shiftLeft_eq]

theorem highNibble_toNat (b : Byte) : (highNibble b).toNat = b.toNat / 16 := by
  have := b.isLt
  simp only [highNibble, BitVec.extractLsb'_toNat, Nat.shiftRight_eq_div_pow]
  omega

theorem highByte_toNat (x : Half) : (highByte x).toNat = x.toNat / 256 := by
  have := x.isLt
  simp only [highByte, BitVec.extractLsb'_toNat, Nat.shiftRight_eq_div_pow]
  omega

theorem add_one_ne_self (a : Half) : a ≠ a + 1 := by bv_omega

section store
variable {s : State} (h : s.mem.wf = true) (a : Half)
include h

/-- UL stores the low nibble of ACC and keeps the high nibble of the byte. -/
theorem read_storeMem_ul :
    ((storeMem .ul a s).read a).toNat = (s.mem.read a).toNat / 16 * 16 + s.acc.toNat % 16 := by
  rw [storeMem, read_write_same _ _ _ h, append_nibbles_toNat, highNibble_toNat, lowNibble_toNat,
    lowByte_toNat, Nat.mod_mod_of_dvd _ (by decide)]

theorem read_storeMem_lk8 : ((storeMem .lk8 a s).read a).toNat = s.acc.toNat % 256 := by
  rw [storeMem, read_write_same _ _ _ h, lowByte_toNat]

/-- The 16-bit modes store both bytes of ACC, the lower address first. -/
theorem read_storeMem_wide {m : LinkMode} (hw : width m = 16) (b : Half) :
    (storeMem m a s).read b =
      if b = a + 1 then highByte s.acc else if b = a then lowByte s.acc else s.mem.read b := by
  cases m
  · cases hw
  · cases hw
  · exact read_write16 _ _ _ _ h
  · exact read_write16 _ _ _ _ h

/-- A store keeps every byte outside its own. -/
theorem read_storeMem_other (m : LinkMode) {b : Half} (hb : b ≠ a) (hb' : width m = 16 → b ≠ a + 1) :
    (storeMem m a s).read b = s.mem.read b := by
  by_cases hw : width m = 16
  · rw [read_storeMem_wide h a hw, if_neg (hb' hw), if_neg hb]
  · cases m
    · exact read_write_other _ _ _ _ h hb
    · exact read_write_other _ _ _ _ h hb
    · exact absurd rfl hw
    · exact absurd rfl hw

/-- What a load in the same link mode finds where a store wrote. -/
theorem loadValue_storeMem (m : LinkMode) {u : State} (hu : u.mem = storeMem m a s) :
    loadValue m a u % 2 ^ width m = s.acc.toNat % 2 ^ width m := by
  unfold loadValue
  rw [hu]
  by_cases hw : width m = 16
  · rw [if_pos hw, read16_toNat, read_storeMem_wide h a hw, read_storeMem_wide h a hw,
      if_neg (add_one_ne_self a), if_pos rfl, if_pos rfl, lowByte_toNat, highByte_toNat, Nat.mod_add_div]
  · rw [if_neg hw]
    cases m
    · rw [read_storeMem_ul h]
      simp only [width]
      omega
    · rw [read_storeMem_lk8 h]
      exact Nat.mod_mod _ _
    · exact absurd rfl hw
    · exact absurd rfl hw

end store

/-- Settles O38: what each size of store leaves at its own addresses and at every other. -/
theorem xmemStoreResult : Obligations.XmemStoreResult := by
  intro m s post dir ar a d hm hwf ha hd
  rw [← addrReg_eq_ite] at ha
  have hpost : postAddr m post dir (s.addrReg ar) = a + d := by rw [postAddr_eq_add, ← hd, ha]
  refine ⟨{ s with
      mem := storeMem m a s, ra0 := if ar = .ra0 then a + d else s.ra0,
      ra1 := if ar = .ra1 then a + d else s.ra1, xopp := false, cmpp := false, z := false }, ?_, ?_, ?_,
    ?_, fun b => read_storeMem_other hwf a m, rfl⟩
  · rw [exec_xmem hm, opXmem, hpost, ← ha, setAddrReg_eq_ite]; rfl
  · rintro rfl; exact read_storeMem_ul hwf a
  · rintro rfl; exact read_storeMem_lk8 hwf a
  · intro hwide
    have hw : width m = 16 := by obtain rfl | rfl := hwide <;> rfl
    dsimp only
    rw [read_storeMem_wide hwf a hw, read_storeMem_wide hwf a hw, if_neg (add_one_ne_self a), if_pos rfl,
      if_pos rfl]
    exact ⟨lowByte_toNat _, highByte_toNat _⟩

/-- Settles O39: the load reads the memory of the store at the address of the store. -/
theorem storeThenLoad : Obligations.StoreThenLoad := by
  intro m s t u v p p' d d' r r' hm hwf hstore humode humem haddr hload
  rw [exec_xmem hm] at hstore
  rw [exec_xmem humode] at hload
  cases hstore
  cases hload
  have hmem : u.mem = storeMem m (s.addrReg r) s := by rw [humem]; simp [opXmem, xmemAccess]
  have hacc : (complete (opXmem m .load p' d' r' u)).acc =
      putLow (width m) u.acc (loadValue m (s.addrReg r) u) := by simp [opXmem, xmemAccess, haddr]
  rw [hacc]
  exact (lowBits_putLow m u.acc _).trans (loadValue_storeMem hwf _ m hmem)

/-! ### CSR access (46_csr_access.md R282, R283) -/

theorem append_bytes_toNat (x y : Byte) : (x ++ y : BitVec 16).toNat = y.toNat + 256 * x.toNat := by
  rw [BitVec.toNat_append, ← Nat.shiftLeft_add_eq_or_of_lt y.isLt, Nat.shiftLeft_eq]
  omega

theorem intctrl_toNat (s : State) :
    s.intctrl.toNat =
      s.swIE.toNat + 2 * s.extIE.toNat + 4 * s.tIE.toNat + 128 * s.wdog.toNat + 256 * s.inIsr.toNat +
        512 * s.extP.toNat + 1024 * s.tP.toNat + 2048 * s.swP.toNat +
        4096 * (s.par.hasDbg && s.dbgStep).toNat := by
  have happend {k : Nat} (x : BitVec k) (b : Bool) : (x ++ BitVec.ofBool b).toNat = x.toNat * 2 + b.toNat := by
    rw [BitVec.toNat_append, ← Nat.shiftLeft_add_eq_or_of_lt (BitVec.isLt _), Nat.shiftLeft_eq,
      BitVec.toNat_ofBool, Nat.pow_one]
  have hzeros {k : Nat} (x : BitVec k) : (x ++ 0#4).toNat = x.toNat * 16 := by
    rw [BitVec.toNat_append, ← Nat.shiftLeft_add_eq_or_of_lt (BitVec.isLt _), Nat.shiftLeft_eq]
    rfl
  simp only [State.intctrl, happend, hzeros, BitVec.toNat_ofNat]
  omega

/-- The reserved CSRs read as 0. -/
theorem csrRead_reserved (s : State) {idx : Nibble} (h : 9 ≤ idx.toNat) : csrRead s idx = 0 := by
  unfold csrRead
  split
  any_goals omega
  rfl

/-- Settles O41: the read function index by index; CSR0, CSR3 and CSR4 are put together from parts. -/
theorem csrReadFunction : Obligations.CsrReadFunction := by
  intro s idx hmode
  refine ⟨_, exec_csrld hmode idx, ?_, ?_, ?_, ?_, ?_, ?_, ?_, ?_, ?_, fun h => ?_, rfl, fun _ => rfl⟩
  · rintro rfl; exact (append_bytes_toNat s.flagsByte s.cfg).trans (by rw [flagsByte_toNat])
  · rintro rfl; rfl
  · rintro rfl; rfl
  · rintro rfl
    refine (apply_ite BitVec.toNat (s.par.hasInt = true) s.intctrl 0).trans ?_
    rw [intctrl_toNat]; rfl
  · rintro rfl
    refine (apply_ite BitVec.toNat (s.par.hasInt = true) (0#8 ++ s.ia : BitVec 16) 0).trans ?_
    rw [append_bytes_toNat]; rfl
  · rintro rfl; rfl
  · rintro rfl; rfl
  · rintro rfl; rfl
  · rintro rfl; rfl
  · exact csrRead_reserved s h

/-- Settles O42: the write function index by index, followed by the common completion. -/
theorem csrWriteFunction : Obligations.CsrWriteFunction := by
  intro s idx hmode
  refine ⟨_, exec_csrst hmode idx, ?_, ?_, ?_, ?_, ?_, ?_, ?_, ?_, ?_, fun h => ?_, fun a => ?_⟩
  · rintro rfl; rw [csrWrite_cfg, lowByte_eq_setWidth]; rfl
  · rintro rfl; rw [csrWrite_timer]; rfl
  · rintro rfl; rw [csrWrite_timerCmp]; rfl
  · rintro rfl hint; rw [csrWrite_intctrl, if_pos hint]; rfl
  · rintro rfl hint; rw [csrWrite_intctrl, if_neg (ne_true_of_eq_false hint)]; rfl
  · rintro rfl; rw [csrWrite_ia, lowByte_eq_setWidth]; rfl
  · rintro rfl; rw [csrWrite_gpr1]; rfl
  · rintro rfl; rw [csrWrite_gpr2]; rfl
  · rintro rfl; rw [csrWrite_gpr3]; rfl
  · rw [csrWrite_ignored _ _ h]; rfl
  · rw [complete_mem, csrWrite_eq]

/-! ### The MAD profile (48_mad_profile.md R321 to R324) -/

/-- The selected lane of a register is one of its bytes. -/
theorem laneOfReg_eq (lane : Lane) (x : Half) :
    laneOfReg lane x = (if lane = .high then x.extractLsb' 8 8 else x.extractLsb' 0 8).toNat := by
  cases lane
  · exact (lowByte_toNat x).symm
  · exact (highByte_toNat x).symm

/-- The product of two lanes, in the signedness of CFG.SIGN. -/
theorem madProduct_eq (sign : Bool) (o1 o2 : Byte) :
    madProduct sign o1.toNat o2.toNat =
      if sign then o1.toInt * o2.toInt else (o1.toNat : Int) * o2.toNat := by
  rw [madProduct, readAs_byte, readAs_byte]
  cases sign <;> rfl

/-- The wrapped sum is the 16-bit pattern of the exact one. -/
theorem emod_toNat_eq_ofInt (x : Int) : (x % 65536).toNat = (BitVec.ofInt 16 x).toNat := by
  rw [BitVec.toNat_ofInt]; rfl

/-- The accumulation under both readings of MAD_FN. -/
theorem madSum_eq (fn : MadFn) (sign : Bool) (acc : Half) (p : Int) {a : Int}
    (ha : a = if sign then acc.toInt else acc.toNat) :
    madSum fn sign acc.toNat p =
      match fn with
      | .exactSum => a + p
      | .wrapFirst => if sign then (BitVec.ofInt 16 (a + p)).toInt else (BitVec.ofInt 16 (a + p)).toNat := by
  cases fn
  · rw [ha, madSum, readAs_half]
  · rw [ha, madSum, readAs_half, emod_toNat_eq_ofInt, readAs_half]

/-- The quotient that rounds down, by the two inequalities that determine it. -/
theorem ediv_eq_of_bounds {sum q d : Int} (hd : 0 < d) (hlo : q * d ≤ sum) (hhi : sum < (q + 1) * d) :
    sum / d = q :=
  le_antisymm (Int.lt_add_one_iff.mp ((Int.ediv_lt_iff_lt_mul hd).mpr hhi))
    ((Int.le_ediv_iff_mul_le hd).mpr hlo)

/-- Settles O44: lanes, product and sum as the statement has them, and the shift as the quotient rounded
down. -/
theorem madResult : Obligations.MadResult := by
  intro s shift sat lane o1 o2 k p a sum q hmode ho1 ho2 hk hp ha hsum hlo hhi
  have hp' : madProduct s.sign (laneOfReg lane s.rs0) (laneOfReg lane s.rs1) = p := by
    rw [laneOfReg_eq, laneOfReg_eq, ← ho1, ← ho2, madProduct_eq, hp]; rfl
  have hsum' : madSum s.par.madFn s.sign s.acc.toNat p = sum :=
    (madSum_eq s.par.madFn s.sign s.acc p ha).trans hsum.symm
  have hk' : madShiftAmount shift = k := hk.symm
  have hq : madSum s.par.madFn s.sign s.acc.toNat p / 2 ^ madShiftAmount shift = q := by
    rw [hsum', hk']; exact ediv_eq_of_bounds (by positivity) hlo hhi
  refine ⟨complete { s with
      acc := BitVec.ofInt 16 (madShifted s.par.madFn s.sign sat shift s.acc.toNat p)
      c := madCarry s.acc.toNat p }, ?_, ?_, ?_, rfl, fun _ => rfl⟩
  · rw [← hp']; exact (inMode_const hmode _).trans (congrArg _ (complete_applyNvRule _))
  · rw [complete_acc, madShifted, hq]
    cases sat <;> rfl
  · rw [complete_c, madCarry, emod_toNat_eq_ofInt, decide_eq_true_iff]

/-- The 16-bit value that MAX and MIN compare. -/
theorem readAs_sign (s : State) (x : Half) :
    (s.cfg.getLsbD 2 = true → readAs s.sign 16 x.toNat = x.toInt) ∧
      (s.cfg.getLsbD 2 = false → readAs s.sign 16 x.toNat = x.toNat) := by
  rw [readAs_half, State.sign]
  exact ⟨fun h => if_pos h, fun h => if_neg (ne_true_of_eq_false h)⟩

/-- Settles O45: the source is taken exactly where it is the larger (MAX) or the smaller (MIN). -/
theorem maxMinResult : Obligations.MaxMinResult := by
  intro s hmode
  obtain ⟨haccS, haccU⟩ := readAs_sign s s.acc
  obtain ⟨hrs0S, hrs0U⟩ := readAs_sign s s.rs0
  constructor
  · refine ⟨complete { s with acc := if s.sourceGreater then s.rs0 else s.acc },
      (inMode_const hmode _).trans (congrArg _ (complete_applyNvRule _)), fun h => ?_, fun h => ?_, rfl,
      fun _ => rfl⟩
    · rw [complete_acc, State.sourceGreater, haccS h, hrs0S h, apply_ite BitVec.toInt]
      simp only [decide_eq_true_eq]
      split <;> omega
    · rw [complete_acc, State.sourceGreater, haccU h, hrs0U h, apply_ite BitVec.toNat]
      simp only [decide_eq_true_eq, Nat.cast_lt]
      split <;> omega
  · refine ⟨complete { s with acc := if s.sourceLess then s.rs0 else s.acc },
      (inMode_const hmode _).trans (congrArg _ (complete_applyNvRule _)), fun h => ?_, fun h => ?_, rfl,
      fun _ => rfl⟩
    · rw [complete_acc, State.sourceLess, haccS h, hrs0S h, apply_ite BitVec.toInt]
      simp only [decide_eq_true_eq]
      split <;> omega
    · rw [complete_acc, State.sourceLess, haccU h, hrs0U h, apply_ite BitVec.toNat]
      simp only [decide_eq_true_eq, Nat.cast_lt]
      split <;> omega

end Sys2Proof.Machine
end
